-- ==== Sys2Proof/Word.lean ====
section
/-! DEFINITION. The words of the machine: a datum (R6, REG_W), an I/O port address (R6, PORT_AW), a command
word (R95) and a port-operation word (R91). All values are unsigned and bit 0 is the least significant (R8). -/

namespace Sys2Proof

/-- One byte: a shadow, a chip register, a port datum, an operand byte. -/
abbrev Byte := BitVec 8

/-- The address of an I/O port. -/
abbrev Port := BitVec 16

/-- A command word: opcode in bits 23..16, operand `a` in 15..8, operand `b` in 7..0 (R95). -/
abbrev CmdWord := BitVec 24

/-- A port-operation word: `we` in bit 24, the port in 23..8, the datum in 7..0 (R91). -/
abbrev PortWord := BitVec 25

end Sys2Proof
end

