-- ==== Sys2Proof/Syntax.lean ====
section
/-! DEFINITION. The instructions: the ten commands (R96) and the seven port micro-operations (R92), one
constructor per row of the opcode table, and the four pseudo-instructions that expand to commands (R101). -/

namespace Sys2Proof

/-- A register set of the chip: SET1 is s = 0, SET2 is s = 1 (R97). -/
inductive RegSet where
  | set1
  | set2
deriving DecidableEq, Repr, Inhabited

/-- A logical pin: an index 0..7 (R33, R97). -/
abbrev LogicalPin := Fin 8

/-- The instructions. -/
inductive Instr where
  /-- `writeRegister(offset, value)` (R125). -/
  | wrreg (off val : Byte)
  /-- `readRegister(offset)` (R126). -/
  | rdreg (off : Byte)
  /-- `setDirection(set, allOutput)` (R150). -/
  | setdir (r : RegSet) (ao : Bool)
  /-- `writeOutputBit(pin, high)` (R151). -/
  | wrbit (p : LogicalPin) (h : Bool)
  /-- `readInputByte(set)` (R152). -/
  | rdin (r : RegSet)
  /-- The transition to Output (R181). -/
  | swout
  /-- The transition to Input, the quirk sequence (R182). -/
  | swin
  /-- set-all-pins-high (R153). -/
  | allhi
  /-- set-all-pins-low (R154). -/
  | alllo
  /-- The poll action (R185). -/
  | tick
  /-- Clear status (R129). -/
  | stClr
  /-- Set target offset (R130). -/
  | setCmd (off : Byte)
  /-- Set slave address in write mode (R131). -/
  | setSlvW
  /-- Set slave address in read mode (R132). -/
  | setSlvR
  /-- Set payload (R133). -/
  | setData (val : Byte)
  /-- Trigger the transaction (R134). -/
  | go
  /-- Read the DATA port (R135). -/
  | getData
deriving DecidableEq, Repr

/-- The two layers of encoded words (R90): a command word of HOST, a port-operation word of SEQ. -/
inductive CodeWord where
  | cmd (w : CmdWord)
  | port (w : PortWord)
deriving DecidableEq, Repr

/-- The pseudo-instructions of the assembler syntax (R101, R157). -/
inductive Pseudo where
  | toggle (p : LogicalPin) (lvl : Bool)
  | poll
  | dirin (r : RegSet)
  | dirout (r : RegSet)
deriving DecidableEq, Repr

end Sys2Proof
end

