-- ==== Sys2Proof/WellFormed.lean ====
section
/-! DEFINITION. What is well formed: a command word (R99), a port-operation word of the block (R92), and an
instruction that HOST may issue (R138). The decoder does not use these checks; that the two agree is a theorem. -/

namespace Sys2Proof

/-- Bits `hi` down to `lo` of a command word, as a number. -/
def CmdWord.slice (w : CmdWord) (lo len : Nat) : Nat := (w.extractLsb' lo len).toNat

/-- R99: the opcode is one of the ten of R96 and every reserved bit is zero. -/
def CmdWord.wellFormed (w : CmdWord) : Bool :=
  let op := CmdWord.slice w 16 8
  let a := CmdWord.slice w 8 8
  let b := CmdWord.slice w 0 8
  op == 0x01
    || (op == 0x02 && b == 0)
    || (op == 0x10 && CmdWord.slice w 9 7 == 0 && CmdWord.slice w 1 7 == 0)
    || (op == 0x11 && CmdWord.slice w 11 5 == 0 && CmdWord.slice w 1 7 == 0)
    || (op == 0x12 && CmdWord.slice w 9 7 == 0 && b == 0)
    || ((op == 0x20 || op == 0x21 || op == 0x30 || op == 0x31 || op == 0x40) && a == 0 && b == 0)

/-- R92: a port-operation word is one of the seven the block performs. -/
def PortWord.wellFormed (w : PortWord) : Bool :=
  w == 0x1040042
    || (w.extractLsb' 8 17).toNat == 0x10403
    || w == 0x104049C
    || w == 0x104049D
    || (w.extractLsb' 8 17).toNat == 0x10405
    || w == 0x1040248
    || w == 0x0040500

/-- R99 and R92 over the two layers. -/
def CodeWord.wellFormed : CodeWord → Bool
  | .cmd w => CmdWord.wellFormed w
  | .port w => PortWord.wellFormed w

/-- R138: the micro-operations are not issuable by HOST; the ten commands are (R2, D25). -/
def Instr.hostIssuable : Instr → Bool
  | .wrreg _ _ => true
  | .rdreg _ => true
  | .setdir _ _ => true
  | .wrbit _ _ => true
  | .rdin _ => true
  | .swout => true
  | .swin => true
  | .allhi => true
  | .alllo => true
  | .tick => true
  | .stClr => false
  | .setCmd _ => false
  | .setSlvW => false
  | .setSlvR => false
  | .setData _ => false
  | .go => false
  | .getData => false

end Sys2Proof
end

