-- ==== Sys2Proof/Decode.lean ====
section
/-! DEFINITION. The decoder of the two layers of words (R91, R92, R95, R96, R99), total and rejecting by name,
and after it the encoder from the same tables. -/

namespace Sys2Proof

/-- Why a word is no instruction. A command word so rejected is illegal (R99) and HOST is answered ILLEGAL_CMD
(R214); a port-operation word so rejected was not produced by the block (R92). Both are safe. -/
inductive DecodeError where
  /-- The opcode is none of the ten of R96. -/
  | noSuchOpcode
  /-- A reserved bit is not zero (R99). -/
  | reservedBits
  /-- The port operation is none of the seven of R92. -/
  | noSuchPortOp
deriving DecidableEq, Repr

/-- The field `op` (R95). -/
def CmdWord.op (w : CmdWord) : Byte := w.extractLsb' 16 8
/-- The field `a` (R95). -/
def CmdWord.a (w : CmdWord) : Byte := w.extractLsb' 8 8
/-- The field `b` (R95). -/
def CmdWord.b (w : CmdWord) : Byte := w.extractLsb' 0 8

/-- A command word from its three bytes (R95). -/
def CmdWord.ofBytes (op a b : Byte) : CmdWord := op ++ a ++ b

/-- The field `s` (R97). -/
def RegSet.ofBit : Bool → RegSet
  | false => .set1
  | true => .set2

/-- The bit of a register set (R97). -/
def RegSet.toBit : RegSet → Bool
  | .set1 => false
  | .set2 => true

/-- The decoder of the command layer (R96, R99). -/
def decodeCmd (w : CmdWord) : Except DecodeError Instr :=
  let a := CmdWord.a w
  let b := CmdWord.b w
  let ifZero (reserved : Bool) (i : Instr) : Except DecodeError Instr :=
    if reserved then .ok i else .error .reservedBits
  match (CmdWord.op w).toNat with
  | 0x01 => .ok (.wrreg a b)
  | 0x02 => ifZero (b == 0) (.rdreg a)
  | 0x10 => ifZero (a &&& 0xFE#8 == 0 && b &&& 0xFE#8 == 0) (.setdir (.ofBit (a.getLsbD 0)) (b.getLsbD 0))
  | 0x11 => ifZero (a &&& 0xF8#8 == 0 && b &&& 0xFE#8 == 0) (.wrbit (Fin.ofNat 8 a.toNat) (b.getLsbD 0))
  | 0x12 => ifZero (a &&& 0xFE#8 == 0 && b == 0) (.rdin (.ofBit (a.getLsbD 0)))
  | 0x20 => ifZero (a == 0 && b == 0) .swout
  | 0x21 => ifZero (a == 0 && b == 0) .swin
  | 0x30 => ifZero (a == 0 && b == 0) .allhi
  | 0x31 => ifZero (a == 0 && b == 0) .alllo
  | 0x40 => ifZero (a == 0 && b == 0) .tick
  | _ => .error .noSuchOpcode

/-- Bit 24 of a port-operation word: 1 is a write (R91). -/
def PortWord.we (w : PortWord) : Bool := w.getLsbD 24
/-- The port of a port-operation word (R91). -/
def PortWord.port (w : PortWord) : Port := w.extractLsb' 8 16
/-- The datum of a port-operation word (R91). -/
def PortWord.data (w : PortWord) : Byte := w.extractLsb' 0 8

/-- A port-operation word from its three fields (R91). -/
def PortWord.ofFields (we : Bool) (p : Port) (d : Byte) : PortWord := BitVec.ofBool we ++ p ++ d

/-- The recogniser of the port-operation layer (R92). -/
def decodePort (w : PortWord) : Except DecodeError Instr :=
  let d := PortWord.data w
  match PortWord.we w, (PortWord.port w).toNat with
  | true, 0x0400 => if d == 0x42 then .ok .stClr else .error .noSuchPortOp
  | true, 0x0403 => .ok (.setCmd d)
  | true, 0x0404 =>
    if d == 0x9C then .ok .setSlvW else if d == 0x9D then .ok .setSlvR else .error .noSuchPortOp
  | true, 0x0405 => .ok (.setData d)
  | true, 0x0402 => if d == 0x48 then .ok .go else .error .noSuchPortOp
  | false, 0x0405 => if d == 0x00 then .ok .getData else .error .noSuchPortOp
  | _, _ => .error .noSuchPortOp

/-- The decoder of both layers. -/
def decode : CodeWord → Except DecodeError Instr
  | .cmd w => decodeCmd w
  | .port w => decodePort w

/-- A one-bit operand as an operand byte (R96). -/
def bitByte (b : Bool) : Byte := if b then 0x01 else 0x00

/-- The encoder (R92, R96). -/
def encode : Instr → CodeWord
  | .wrreg off val => .cmd (CmdWord.ofBytes 0x01 off val)
  | .rdreg off => .cmd (CmdWord.ofBytes 0x02 off 0x00)
  | .setdir r ao => .cmd (CmdWord.ofBytes 0x10 (bitByte r.toBit) (bitByte ao))
  | .wrbit p h => .cmd (CmdWord.ofBytes 0x11 (BitVec.ofNat 8 p.val) (bitByte h))
  | .rdin r => .cmd (CmdWord.ofBytes 0x12 (bitByte r.toBit) 0x00)
  | .swout => .cmd (CmdWord.ofBytes 0x20 0x00 0x00)
  | .swin => .cmd (CmdWord.ofBytes 0x21 0x00 0x00)
  | .allhi => .cmd (CmdWord.ofBytes 0x30 0x00 0x00)
  | .alllo => .cmd (CmdWord.ofBytes 0x31 0x00 0x00)
  | .tick => .cmd (CmdWord.ofBytes 0x40 0x00 0x00)
  | .stClr => .port (PortWord.ofFields true 0x0400 0x42)
  | .setCmd off => .port (PortWord.ofFields true 0x0403 off)
  | .setSlvW => .port (PortWord.ofFields true 0x0404 0x9C)
  | .setSlvR => .port (PortWord.ofFields true 0x0404 0x9D)
  | .setData val => .port (PortWord.ofFields true 0x0405 val)
  | .go => .port (PortWord.ofFields true 0x0402 0x48)
  | .getData => .port (PortWord.ofFields false 0x0405 0x00)

/-- The command a pseudo-instruction stands for (R101, R157). -/
def Pseudo.expand : Pseudo → Instr
  | .toggle p lvl => .wrbit p lvl
  | .poll => .tick
  | .dirin r => .setdir r false
  | .dirout r => .setdir r true

/-- What the decoder reads from a word of the opcode table: `nbits` is the row's bits in whole bytes, 24 for a
command and 32 for a port operation of 25 bits, whose bits above 24 must be zero. -/
def decodeTableWord (nbits w : Nat) : Option Instr :=
  if nbits ≤ 24 then
    if w < 2 ^ 24 then (decodeCmd (BitVec.ofNat 24 w)).toOption else none
  else
    if w < 2 ^ 25 then (decodePort (BitVec.ofNat 25 w)).toOption else none

end Sys2Proof
end

