-- ==== Sys2Proof/Config.lean ====
section
/-! DEFINITION. What an implementation fixes (the open parameters of R6, log entries 4 and 31) and the free
values of the environment (log entries 5 to 7). A free value is an opaque constant: nothing can be proved of it. -/

namespace Sys2Proof

/-- One value for each of the eight logical pins. -/
structure PerPin (α : Type) where
  p0 : α
  p1 : α
  p2 : α
  p3 : α
  p4 : α
  p5 : α
  p6 : α
  p7 : α
deriving DecidableEq, Repr, Inhabited

/-- The value of one pin. -/
def PerPin.get {α : Type} (x : PerPin α) : LogicalPin → α
  | 0 => x.p0
  | 1 => x.p1
  | 2 => x.p2
  | 3 => x.p3
  | 4 => x.p4
  | 5 => x.p5
  | 6 => x.p6
  | 7 => x.p7

/-- Pins in ascending order. -/
def PerPin.toList {α : Type} (x : PerPin α) : List α :=
  [x.p0, x.p1, x.p2, x.p3, x.p4, x.p5, x.p6, x.p7]

/-- A function applied to the value of every pin. -/
def PerPin.map {α β : Type} (f : α → β) (x : PerPin α) : PerPin β :=
  ⟨f x.p0, f x.p1, f x.p2, f x.p3, f x.p4, f x.p5, f x.p6, f x.p7⟩

/-- The same value for every pin. -/
def PerPin.all {α : Type} (a : α) : PerPin α := ⟨a, a, a, a, a, a, a, a⟩

/-- Where a logical pin stands: a register set and a bit of its registers (R33). -/
structure PinPos where
  set : RegSet
  bit : Fin 8
deriving DecidableEq, Repr, Inhabited

/-- A pin map: every logical pin to its (set, bit) pair. -/
abbrev PinMap := PerPin PinPos

/-- The three properties R33 states: injective; no pin at bit 3 or 5; some pin at (SET1, 2). -/
def PinMap.admissible (m : PinMap) : Bool :=
  decide (m.toList.Nodup)
    && m.toList.all (fun pos => pos.bit != 3 && pos.bit != 5)
    && m.toList.any (fun pos => pos == PinPos.mk .set1 2)

/-- The reference value PINMAP_REF of R33, for worked examples only. -/
def PinMap.reference : PinMap :=
  ⟨⟨.set1, 0⟩, ⟨.set1, 1⟩, ⟨.set1, 2⟩, ⟨.set1, 4⟩, ⟨.set1, 6⟩, ⟨.set1, 7⟩, ⟨.set2, 0⟩, ⟨.set2, 1⟩⟩

/-- The open parameters a command reads (R6). -/
structure Params where
  /-- PINMAP. -/
  pinMap : PinMap
  /-- ALL_GUARDED: whether ALLHI and ALLLO are rejected in Input mode. -/
  allGuarded : Bool
  /-- ALL_HIGH_BYTE[0], for SET1. -/
  allHigh0 : Byte
  /-- ALL_HIGH_BYTE[1], for SET2. -/
  allHigh1 : Byte
deriving DecidableEq, Repr

/-! The open parameters of the machine that `State.reset` starts. -/

/-- Any eight pairs; `Config.pinMap` makes them a pin map. -/
opaque Config.rawPinMap : PinMap
/-- OPEN (D11). -/
opaque Config.allGuarded : Bool
/-- OPEN (D12). -/
opaque Config.allHigh0 : Byte
/-- OPEN (D12). -/
opaque Config.allHigh1 : Byte
/-- T_UNIT, OPEN (D15, U6): the length of one time unit, in no named unit; no functional rule reads it. -/
opaque Config.tUnit : Nat

/-- PINMAP: any admissible map. Where the free eight pairs do not have the properties of R33 the reference map
stands in, so that every value of this constant is admissible (log entry 4). -/
def Config.pinMap : PinMap :=
  if Config.rawPinMap.admissible then Config.rawPinMap else PinMap.reference

/-- The parameters of the machine that `State.reset` starts. -/
def Config.params : Params :=
  ⟨Config.pinMap, Config.allGuarded, Config.allHigh0, Config.allHigh1⟩

/-- The least duration of `Wait(n)`, in the unit of T_UNIT (R9, R124). -/
def Config.leastWait (n : Nat) : Nat := n * Config.tUnit

/-! The free values of the environment. -/

/-- The n-th byte ENV answers a read with, where nothing is scripted (R73, U1). -/
opaque Config.envByte : Nat → Byte
/-- What ENV does to the chip: the registers it changes, with their new bytes, in order. -/
abbrev ChipEffect := List (Byte × Byte)

/-- What the n-th transfer does to the chip as far as it lands at its trigger, where nothing is scripted (U3, U14). -/
opaque Config.transferEffect : Nat → ChipEffect
/-- What a port nothing was written to holds (U2), by epoch and port. -/
opaque Config.portUnspecified : Nat → Nat → Byte
/-- What a chip register nothing was written to holds (U2), by epoch and offset. -/
opaque Config.chipUnspecified : Nat → Nat → Byte

end Sys2Proof
end

