-- ==== Sys2Proof/Machine/State.lean ====
section
/-! DEFINITION. The state of the block, of its input channels and of its environment, as plain data
(10_state.md R20 to R39), and the state after reset (R37). -/

namespace Sys2Proof.Machine

/-- MODE (R21). -/
inductive Mode where
  | input
  | output
deriving DecidableEq, Repr

/-- One entry of the display file (R25); 0b01 does not exist (U15). -/
inductive DispLevel where
  | blank
  | low
  | high
deriving DecidableEq, Repr

/-- PH, the phase inside a transaction item (R24). -/
inductive Phase where
  | sClr
  | sCmd
  | sSlv
  | sDat
  | sGo
  | sWait
  | sSmp
deriving DecidableEq, Repr

/-- RSP_ST (R100, R215); the value 3 does not exist (U15). -/
inductive RspStatus where
  | ok
  | invalidOp
  | illegalCmd
deriving DecidableEq, Repr

/-- What `loadStatus()` answers (R212); the source gives the names no numbers. -/
inductive LoadStatus where
  | ok
  | dllNotFound
  | incorrectVersion
  | initializeError
  | unknown
deriving DecidableEq, Repr

/-- Who the command in progress came from: only HOST is answered (R185, R28; log entry 10). -/
inductive Source where
  | host
  | timer
deriving DecidableEq, Repr

/-- The two levels of description of R10 (log entry 3). -/
inductive Grain where
  /-- One command is one step; no time. -/
  | big
  /-- One micro-operation, wait step, assignment or response is one step; timed by `tu`. -/
  | small
deriving DecidableEq, Repr

/-- One entry of TRACE (R29): PW(port, value), PR(port) = value, or the marker WAIT(n). -/
inductive TraceEntry where
  | pw (port : Port) (value : Byte)
  | pr (port : Port) (value : Byte)
  | wait (n : Nat)
deriving DecidableEq, Repr

/-- One response at the command port (R28, R100). -/
structure Response where
  status : RspStatus
  data : Byte
deriving DecidableEq, Repr

/-- What the outside does in one clock step (R36; log entry 26). `none` leaves a level as it is. -/
structure Cycle where
  /-- `rst` (R250). -/
  rst : Bool
  /-- One pulse per time unit (R36). -/
  tu : Bool
  /-- TIMER raises a tick, in the untimed grain (R186). -/
  tick : Bool
  /-- Where a tick and a command are both there, the tick is taken (R187, D27). -/
  tickFirst : Bool
  /-- LOADER reports its status (R212, R253). -/
  load : Option LoadStatus
  /-- `deinitialize()`: EN is lowered for good (R254). -/
  release : Bool
  /-- POLL_EN changes (R26). -/
  pollEn : Option Bool
  /-- HOST begins to present a word (R36). -/
  cmd : Option CmdWord
  /-- Another agent touches one of the five ports (R224, U5). -/
  foreign : Bool
  /-- What ENV does to the chip in this clock step of its own accord: a transfer that lands later than its trigger,
  or anything else (R72, R255; log entry 33). -/
  chip : ChipEffect
deriving DecidableEq, Repr

/-- A clock step in which the outside does nothing. -/
def Cycle.quiet : Cycle := ⟨false, false, false, false, none, false, none, none, false, []⟩

/-- Memory: the bytes that were written, by address, addresses strictly rising. An address that is not listed
holds an unspecified byte (U2; log entry 6). -/
abbrev Memory := List Host.Cell

/-- Which environment answers (R11). -/
inductive EnvKind where
  /-- Reads are draws under no law; what a transfer does to the chip, and when, is free (R73, R213, R255). -/
  | oracle
  /-- ENV_REF, for the worked examples only (R74). -/
  | reference
deriving DecidableEq, Repr

/-- The environment: the chipset controller, the chip and the pins (R31, R32, R39 (c), R74). -/
structure Env where
  kind : EnvKind
  /-- The IO space: the latches of the controller's ports. -/
  io : Memory
  /-- The CHIP space: the chip's registers, by offset. -/
  chip : Memory
  /-- The bytes ENV will answer with; then the free ones of Config (log entry 5). -/
  answers : List Byte
  /-- How many bytes were drawn. -/
  draws : Nat
  /-- What the coming transfers do to the chip at their triggers; then the free effects of Config (log entry 6). -/
  effects : List ChipEffect
  /-- How many transfers were triggered. -/
  transfers : Nat
  /-- How often the whole environment became unspecified again (U11; log entry 7). -/
  epoch : Nat
deriving DecidableEq, Repr

/-- The state of the machine. -/
structure State where
  /-- MODE (R21). -/
  mode : Mode
  /-- SH[0], the shadow of SET1 (R22). -/
  sh0 : Byte
  /-- SH[1], the shadow of SET2 (R22). -/
  sh1 : Byte
  /-- T_OFF (R23). -/
  tOff : Byte
  /-- T_VAL (R23). -/
  tVal : Byte
  /-- T_RD: true is a read (R23). -/
  tRd : Bool
  /-- T_RES (R23). -/
  tRes : Byte
  /-- BUSY (R24). -/
  busy : Bool
  /-- CS (R24). -/
  cs : BitVec 4
  /-- PH (R24). -/
  ph : Phase
  /-- DISP[0..7] (R25). -/
  disp : PerPin DispLevel
  /-- POLL_CNT (R26). -/
  pollCnt : BitVec 8
  /-- POLL_EN, an input level (R26). -/
  pollEn : Bool
  /-- W_CNT (R124). -/
  wCnt : BitVec 2
  /-- C_OP (R27). -/
  cOp : Byte
  /-- C_A (R27). -/
  cA : Byte
  /-- C_B (R27). -/
  cB : Byte
  /-- Who the command in progress came from (log entry 10). -/
  cSrc : Source
  /-- RSP_ST (R28). -/
  rspSt : RspStatus
  /-- RSP_D (R28). -/
  rspD : Byte
  /-- `rsp_valid`: the last step gave a response (R36). -/
  rspValid : Bool
  /-- IN0, the byte sampled from SET1 (R185). -/
  in0 : Byte
  /-- IN1, the byte sampled from SET2 (R185). -/
  in1 : Byte
  /-- TRACE, in the order performed (R29). -/
  trace : List TraceEntry
  /-- The responses given since reset, in order (R10; log entry 11). -/
  responses : List Response
  /-- EN, an input level (R36). -/
  en : Bool
  /-- What LOADER reported, if it has (R212). -/
  load : Option LoadStatus
  /-- Whether the bus handle was released (R254). -/
  released : Bool
  /-- The words HOST presents, the first at the command port (R36). -/
  cmds : List CmdWord
  /-- What the outside does in the coming clock steps (log entry 26). -/
  inputs : List Cycle
  /-- The environment. -/
  env : Env
  /-- The open parameters; no step changes them (R6). -/
  cfg : Params
  /-- The level of description (R10). -/
  grain : Grain
deriving DecidableEq, Repr

/-- Why the machine stops with a fault. -/
inductive Fault where
  /-- Raised by a small step whose CS is past the end of its command's micro-program. No run reaches such a
  state (R24: UPC never wraps); safe. -/
  | csOutsideProgram
deriving DecidableEq, Repr

/-- Why the machine refuses to go on. -/
inductive Refusal where
  /-- Raised by exec for an instruction the model gives no meaning; safe. No arm uses it. -/
  | notModelled (mnemonic : String)
  /-- Raised by the step when another agent touches the five ports: U5 asks for a refusal; safe. -/
  | foreignAgent
deriving DecidableEq, Repr

/-- ENV as the model finds it: an oracle of which nothing is specified (U2). -/
def Env.unspecified : Env := ⟨.oracle, [], [], [], 0, [], 0, 0⟩

/-- The machine right after reset (R37, R251): idle, Input mode, shadows 0x00, display blank, nothing presented;
EN and POLL_EN low (log entry 1), the parameters those of Config (log entry 4). -/
def State.reset : State where
  mode := .input
  sh0 := 0
  sh1 := 0
  tOff := 0
  tVal := 0
  tRd := false
  tRes := 0
  busy := false
  cs := 0
  ph := .sClr
  disp := PerPin.all .blank
  pollCnt := 0
  pollEn := false
  wCnt := 0
  cOp := 0
  cA := 0
  cB := 0
  cSrc := .host
  rspSt := .ok
  rspD := 0
  rspValid := false
  in0 := 0
  in1 := 0
  trace := []
  responses := []
  en := false
  load := none
  released := false
  cmds := []
  inputs := []
  env := Env.unspecified
  cfg := Config.params
  grain := .big

end Sys2Proof.Machine
end

