-- ==== Sys2Proof/Machine/Flags.lean ====
section
/-! DEFINITION. The block has no flag and no condition code (R39 (a)). This file holds the conditions that are
ever tested, bit b of a byte (R155) and the mode guard (R184), the bit laws (R156), and the bit patterns of the
enumerations that leave the block (R24, R25, R28, R100). -/

namespace Sys2Proof.Machine

/-- BitHigh(v, b): bit b of v is 1 (R155). -/
def bitHigh (v : Byte) (b : Fin 8) : Bool := (v >>> b.val) &&& 1#8 == 1#8

/-- The mask `1 << b` (R98). -/
def bitMask (b : Fin 8) : Byte := 1#8 <<< b.val

/-- SetBit(v, b) (R156). -/
def setBit (v : Byte) (b : Fin 8) : Byte := v ||| bitMask b

/-- ClrBit(v, b) (R156). -/
def clrBit (v : Byte) (b : Fin 8) : Byte := v &&& ~~~(bitMask b)

/-- The shadow byte a pin write asks for (R151). -/
def withBit (v : Byte) (b : Fin 8) (high : Bool) : Byte := if high then setBit v b else clrBit v b

/-- The guard on WRBIT: MODE alone is read (R184). -/
def State.pinWriteRejected (s : State) : Bool := s.mode == .input

/-- The guard on ALLHI and ALLLO: only if ALL_GUARDED (R184, D11). -/
def State.bulkWriteRejected (s : State) : Bool := s.cfg.allGuarded && s.mode == .input

/-- The level TICK shows for a sampled bit (R185). -/
def levelOf (high : Bool) : DispLevel := if high then .high else .low

/-- MODE as a bit (R21, D4). -/
def Mode.toBit : Mode → BitVec 1
  | .input => 0
  | .output => 1

/-- PH as a number (R24). -/
def Phase.toBits : Phase → BitVec 3
  | .sClr => 0
  | .sCmd => 1
  | .sSlv => 2
  | .sDat => 3
  | .sGo => 4
  | .sWait => 5
  | .sSmp => 6

/-- A display entry as two bits (R25, D5). -/
def DispLevel.toBits : DispLevel → BitVec 2
  | .blank => 0b00
  | .low => 0b10
  | .high => 0b11

/-- RSP_ST as two bits (R100, R215). -/
def RspStatus.toBits : RspStatus → BitVec 2
  | .ok => 0
  | .invalidOp => 1
  | .illegalCmd => 2

/-- The output `mode` (R36). -/
def State.modeOut (s : State) : BitVec 1 := s.mode.toBit

/-- The output `busy` (R36). -/
def State.busyOut (s : State) : Bool := s.busy

/-- The output `disp[15:0]`: pin p at bits 2p+1..2p (R36). -/
def State.dispOut (s : State) : BitVec 16 :=
  s.disp.p7.toBits ++ s.disp.p6.toBits ++ s.disp.p5.toBits ++ s.disp.p4.toBits
    ++ s.disp.p3.toBits ++ s.disp.p2.toBits ++ s.disp.p1.toBits ++ s.disp.p0.toBits

/-- The response word of R100. Which field stands higher R100 does not say; that status has bits 9..8 and data 7..0 is
the model's choice (DESIGN CHOICE, log entry 32). -/
def Response.word (r : Response) : BitVec 10 := r.status.toBits ++ r.data

/-- The response at the RSP channel (R28, R36). -/
def State.response (s : State) : Response := ⟨s.rspSt, s.rspD⟩

/-- The PORTOP word of a TRACE entry (R91); a WAIT marker has none, and the byte a read returned is no part of
its request. -/
def TraceEntry.portWord : TraceEntry → Option PortWord
  | .pw p v => some (PortWord.ofFields true p v)
  | .pr p _ => some (PortWord.ofFields false p 0x00)
  | .wait _ => none

end Sys2Proof.Machine
end

