-- ==== Sys2Proof/Machine/Operands.lean ====
section
/-! DEFINITION. Operand assembly, the only computed values of the block (R62, R63, R98), and what PINMAP gives
(R33, R34). -/

namespace Sys2Proof.Machine

/-- SMBUS_STATUS (R31, R61). -/
def portStatus : Port := 0x0400
/-- SMBUS_CTRL (R31, R61). -/
def portCtrl : Port := 0x0402
/-- SMBUS_CMD (R31, R61). -/
def portCmd : Port := 0x0403
/-- SMBUS_SLV (R31, R61). -/
def portSlv : Port := 0x0404
/-- SMBUS_DATA (R31, R61). -/
def portData : Port := 0x0405

/-- BYTE_CLR (R6). -/
def byteClr : Byte := 0x42
/-- BYTE_GO (R6). -/
def byteGo : Byte := 0x48
/-- SLV_W (R6). -/
def slvWrite : Byte := 0x9C
/-- SLV_R (R6). -/
def slvRead : Byte := 0x9D

/-- DELAY_W and DELAY_R: the time units of the wait after a trigger (R6, R124). -/
def waitUnits (rd : Bool) : Nat := if rd then 2 else 1

/-- OFF_DIR (R62). -/
def offDir : RegSet → Byte
  | .set1 => 0x10
  | .set2 => 0x20

/-- OFF_OUT (R62). -/
def offOut : RegSet → Byte
  | .set1 => 0x11
  | .set2 => 0x21

/-- OFF_IN (R62). -/
def offIn : RegSet → Byte
  | .set1 => 0x12
  | .set2 => 0x22

/-- The direction byte of SETDIR (R98). -/
def dirByte (ao : Bool) : Byte := if ao then 0xFF else 0x00

/-- SH[r] (R22). -/
def State.sh (s : State) : RegSet → Byte
  | .set1 => s.sh0
  | .set2 => s.sh1

/-- SH[r] <- v (R22). -/
def State.setSh (s : State) (r : RegSet) (v : Byte) : State :=
  match r with
  | .set1 => { s with sh0 := v }
  | .set2 => { s with sh1 := v }

/-- PINMASK[r] (R34): the OR of `1 << b` over every pin of the set. -/
def pinMask (m : PinMap) (r : RegSet) : Byte :=
  m.toList.foldl (fun acc pos => if pos.set = r then acc ||| bitMask pos.bit else acc) 0

/-- ALL_HIGH_BYTE[r] (R6). -/
def State.allHigh (s : State) : RegSet → Byte
  | .set1 => s.cfg.allHigh0
  | .set2 => s.cfg.allHigh1

/-- The parameters with the defaults of R6 over a pin map: guarded, ALL_HIGH_BYTE = PINMASK. -/
def paramsDefault (m : PinMap) : Params := ⟨m, true, pinMask m .set1, pinMask m .set2⟩

/-- The parameters of the worked examples, PINMAP_REF and the defaults: for tests and witnesses only. -/
def paramsReference : Params := paramsDefault PinMap.reference

/-- The shadow byte WRBIT p, h writes: its set's shadow with its bit set or cleared (R151). -/
def State.pinByte (s : State) (p : LogicalPin) (h : Bool) : Byte :=
  withBit (s.sh (s.cfg.pinMap.get p).set) (s.cfg.pinMap.get p).bit h

/-- The chip register offset WRBIT p writes (R151). -/
def State.pinOffset (s : State) (p : LogicalPin) : Byte := offOut (s.cfg.pinMap.get p).set

/-- The level of a pin in two sampled bytes (R185). -/
def pinLevel (b0 b1 : Byte) (pos : PinPos) : DispLevel :=
  levelOf (bitHigh (match pos.set with | .set1 => b0 | .set2 => b1) pos.bit)

end Sys2Proof.Machine
end

