-- ==== Sys2Proof/Machine/Ops.lean ====
section
/-! DEFINITION. The named operations: memory, the environment (R66, R73, R74), one port operation (R9, R38), the
micro-program counter (R24), the response that ends every command, rejected ones too (R28, R211, R214, R218),
the actions of the seven micro-operations (R129 to R135) and the two transactions (R121, R122). -/

namespace Sys2Proof.Machine

/-! Memory. -/

/-- The byte listed at an address; an address that is not listed holds an unspecified byte. -/
def Memory.lookup : Memory → Nat → Option Byte
  | [], _ => none
  | (b, v) :: m, a => if a = b then some v else Memory.lookup m a

/-- The memory after a byte is written. -/
def Memory.store : Memory → Nat → Byte → Memory
  | [], a, v => [(a, v)]
  | (b, w) :: m, a, v =>
    if a < b then (a, v) :: (b, w) :: m
    else if a = b then (a, v) :: m
    else (b, w) :: Memory.store m a v

/-- The chip's memory after the registers of an effect changed, in order. -/
def Memory.storeAll (m : Memory) (changes : ChipEffect) : Memory :=
  changes.foldl (fun m c => Memory.store m c.1.toNat c.2) m

/-- Addresses strictly rise. -/
def Memory.rising : Memory → Bool
  | [] => true
  | [_] => true
  | (a, _) :: (b, v) :: m => decide (a < b) && Memory.rising ((b, v) :: m)

/-- The canonical form of a memory of `size` addresses: every address exists, addresses strictly rise. No byte is
the reading of an unlisted address, so no entry is left out for its value (log entry 6). -/
def Memory.wf (size : Nat) (m : Memory) : Bool :=
  Memory.rising m && m.all (fun c => decide (c.1 < size))

/-! The environment. -/

/-- What a port holds: the byte last latched there, else an unspecified one, the same until a reset makes it
unspecified again (log entry 34). -/
def Env.ioByte (e : Env) (p : Port) : Byte :=
  (Memory.lookup e.io p.toNat).getD (Config.portUnspecified e.epoch p.toNat)

/-- What a chip register holds: the byte last written there, else an unspecified one. -/
def Env.chipByte (e : Env) (off : Byte) : Byte :=
  (Memory.lookup e.chip off.toNat).getD (Config.chipUnspecified e.epoch off.toNat)

/-- The next draw: a byte under no law (R73). -/
def Env.nextByte (e : Env) : Byte := e.answers.headD (Config.envByte e.draws)

/-- The environment after a draw was taken. -/
def Env.takeByte (e : Env) : Env := { e with answers := e.answers.tail, draws := e.draws + 1 }

/-- What the next transfer does to the chip at its trigger: anything (U3, U14). -/
def Env.nextEffect (e : Env) : ChipEffect := e.effects.headD (Config.transferEffect e.transfers)

/-- The environment after that was settled. -/
def Env.takeEffect (e : Env) : Env :=
  { e with effects := e.effects.tail, transfers := e.transfers + 1 }

/-- A port latches a byte. -/
def Env.latch (e : Env) (p : Port) (v : Byte) : Env := { e with io := Memory.store e.io p.toNat v }

/-- A chip register takes a byte. -/
def Env.setChip (e : Env) (off v : Byte) : Env := { e with chip := Memory.store e.chip off.toNat v }

/-- The chip changes. -/
def Env.changeChip (e : Env) (changes : ChipEffect) : Env := { e with chip := Memory.storeAll e.chip changes }

/-- What ENV does of its own accord in a clock step: under the oracle anything to the chip, the landing of an earlier
transfer among it (R72, R255, U3; log entry 33); nothing in ENV_REF, where a transfer is complete at its trigger. That
it changes no port of its own accord is the model's choice (DESIGN CHOICE, log entry 34): R67 leaves the ports to ENV. -/
def Env.drift (e : Env) (changes : ChipEffect) : Env :=
  match e.kind with
  | .oracle => e.changeChip changes
  | .reference => e

/-- The trigger in ENV_REF (R74). -/
def Env.triggerReference (e : Env) : Env :=
  let off := e.ioByte portCmd
  if e.ioByte portSlv = slvWrite then e.setChip off (e.ioByte portData)
  else if e.ioByte portSlv = slvRead then
    if off = offIn .set1 ∨ off = offIn .set2 then e.takeByte.latch portData e.nextByte
    else e.latch portData (e.chipByte off)
  else e

/-- The trigger under the oracle: what the transfer does to the chip is ENV's, at every offset and in either
direction (R67, R213, U3, U14; log entry 6), and so is when: this is what lands at the trigger, and `Env.drift` what
lands later (log entry 33). What a read transfer brings is settled when DATA is read (R73). -/
def Env.triggerOracle (e : Env) : Env := (e.changeChip e.nextEffect).takeEffect

/-- The transfer that a write of BYTE_GO to CTRL starts, with what CMD, SLV and DATA hold (R66 (d)). -/
def Env.trigger (e : Env) : Env :=
  match e.kind with
  | .oracle => e.triggerOracle
  | .reference => e.triggerReference

/-- What a port write does in ENV (R66 (d), R74): CMD, SLV and DATA latch, BYTE_GO at CTRL triggers; the status
that a write to STATUS clears has no known field (N3; log entry 24). -/
def Env.acceptWrite (e : Env) (p : Port) (v : Byte) : Env :=
  if p = portCmd ∨ p = portSlv ∨ p = portData then e.latch p v
  else if p = portCtrl ∧ v = byteGo then e.trigger
  else e

/-- The byte a port read returns: a draw under the oracle (R73), what DATA holds in ENV_REF, and a draw from any
other port (R74). -/
def Env.readByte (e : Env) (p : Port) : Byte :=
  if e.kind = .reference ∧ p = portData then e.ioByte portData else e.nextByte

/-- ENV after a port read: a draw is taken, and under the oracle the byte returned is what was sitting in DATA
(R66 (d), R127; log entry 9). -/
def Env.afterRead (e : Env) (p : Port) : Env :=
  if p = portData then
    match e.kind with
    | .reference => e
    | .oracle => e.takeByte.latch portData e.nextByte
  else e.takeByte

/-- ENV of which nothing is known any more (R250, U11; log entry 7). -/
def Env.forget (e : Env) : Env := { e with io := [], chip := [], epoch := e.epoch + 1 }

/-! Port operations (R9, R38). -/

/-- PW(p, v): one indivisible port write, appended to TRACE. -/
def State.portWrite (s : State) (p : Port) (v : Byte) : State :=
  { s with trace := s.trace ++ [.pw p v], env := s.env.acceptWrite p v }

/-- T_RES <- PR(p): one indivisible port read, appended to TRACE with the value returned. -/
def State.portRead (s : State) (p : Port) : State :=
  { s with
    trace := s.trace ++ [.pr p (s.env.readByte p)]
    tRes := s.env.readByte p
    env := s.env.afterRead p }

/-! The micro-program counter (R24). -/

/-- PH <- ph. -/
def State.toPhase (s : State) (ph : Phase) : State := { s with ph := ph }

/-- The end of an item: CS <- CS + 1, PH <- 0. -/
def State.endItem (s : State) : State := { s with cs := s.cs + 1, ph := .sClr }

/-- UPC <- (0, 0, 0): no command in progress. -/
def State.goIdle (s : State) : State := { s with busy := false, cs := 0, ph := .sClr }

/-! How a command ends. -/

/-- `respond(st, d)`: the response is given and the block is idle (R9, R24, R28). -/
def State.respond (s : State) (st : RspStatus) (d : Byte) : State :=
  State.goIdle
    { s with rspSt := st, rspD := d, rspValid := true, responses := s.responses ++ [Response.mk st d] }

/-- Taking an exception (R210, R211, R214, R218): the response carries the cause and data 0x00, the block returns
to idle, and nothing is saved, masked or vectored. There is no return from one (R219). -/
def State.raise (s : State) (cause : RspStatus) : State := s.respond cause 0x00

/-- The end of TICK: answered only if the TICK word came from HOST (R185). -/
def State.endTick (s : State) : State :=
  match s.cSrc with
  | .host => s.respond .ok 0x00
  | .timer => s.goIdle

/-! The actions of the seven micro-operations. -/

/-- ST_CLR (R129). -/
def State.clearStatus (s : State) : State := (s.portWrite portStatus byteClr).toPhase .sCmd

/-- SET_CMD (R130). -/
def State.setTarget (s : State) (off : Byte) : State := (s.portWrite portCmd off).toPhase .sSlv

/-- SET_SLV_W (R131). -/
def State.addressForWrite (s : State) : State := (s.portWrite portSlv slvWrite).toPhase .sDat

/-- SET_SLV_R (R132). -/
def State.addressForRead (s : State) : State := (s.portWrite portSlv slvRead).toPhase .sGo

/-- SET_DATA (R133). -/
def State.setPayload (s : State) (val : Byte) : State := (s.portWrite portData val).toPhase .sGo

/-- GO (R134): the wait counter is cleared. -/
def State.startTransfer (s : State) : State :=
  { (s.portWrite portCtrl byteGo).toPhase .sWait with wCnt := 0 }

/-- GET_DATA (R135): T_RES takes the byte and the transaction item ends. -/
def State.sampleData (s : State) : State := (s.portRead portData).endItem

/-! The transactions. -/

/-- The latches of a write transaction (R121). -/
def State.loadWrite (s : State) (off val : Byte) : State :=
  { s with tRd := false, tOff := off, tVal := val }

/-- The latches of a read transaction; T_VAL is not loaded (R122, R23). -/
def State.loadRead (s : State) (off : Byte) : State := { s with tRd := true, tOff := off }

/-- The end of `Wait(n)`: the marker stands in TRACE, a write transaction's item ends and a read transaction goes
on to its sample (R24, R29, R124; that the marker comes at the end is log entry 21). -/
def State.endWait (s : State) : State :=
  let t : State := { s with trace := s.trace ++ [.wait (waitUnits s.tRd)] }
  if s.tRd then t.toPhase .sSmp else t.endItem

/-- TXW(off, val), the write transaction (R121). -/
def State.txw (s : State) (off val : Byte) : State :=
  ((((((s.loadWrite off val).clearStatus).setTarget off).addressForWrite).setPayload val).startTransfer).endWait

/-- TXR(off), the read transaction; the byte is left in T_RES (R122). -/
def State.txr (s : State) (off : Byte) : State :=
  ((((((s.loadRead off).clearStatus).setTarget off).addressForRead).startTransfer).endWait).sampleData

/-! The internal assignments of the mode machine and the poll (R181, R182, R185). -/

/-- MODE <- Output, and the display is blanked with it (R181, D20). -/
def State.enterOutput (s : State) : State := { s with mode := .output, disp := PerPin.all .blank }

/-- MODE <- Input (R182, step 2). -/
def State.enterInput (s : State) : State := { s with mode := .input }

/-- Both shadow bytes zeroed (R182, step 4). -/
def State.zeroShadows (s : State) : State := { s with sh0 := 0x00, sh1 := 0x00 }

/-- IN0 or IN1 takes the byte just read (R185). -/
def State.keepSample (s : State) (r : RegSet) : State :=
  match r with
  | .set1 => { s with in0 := s.tRes }
  | .set2 => { s with in1 := s.tRes }

/-- DISP[p] for every pin from IN0 and IN1 (R185). -/
def State.showLevels (s : State) : State :=
  { s with disp := s.cfg.pinMap.map (pinLevel s.in0 s.in1) }

end Sys2Proof.Machine
end

