-- ==== Sys2Proof/Machine/Gpio.lean ====
section
/-! DEFINITION. The commands of the GPIO register model: SETDIR (R150), WRBIT (R151), RDIN (R152), ALLHI (R153),
ALLLO (R154). A shadow takes its byte after its write transaction (R158). -/

namespace Sys2Proof.Machine

/-- SETDIR s, ao (R150): the whole direction byte of one set. -/
def execSetdir (r : RegSet) (ao : Bool) (s : State) : Host.Outcome State Fault Refusal :=
  .next ((s.txw (offDir r) (dirByte ao)).respond .ok 0x00)

/-- WRBIT p, h (R151): InvalidOperation in Input mode (R184, R211); else the pin's set is rewritten whole. -/
def execWrbit (p : LogicalPin) (h : Bool) (s : State) : Host.Outcome State Fault Refusal :=
  let nv := s.pinByte p h
  .next (if s.pinWriteRejected then s.raise .invalidOp
    else ((s.txw (s.pinOffset p) nv).setSh (s.cfg.pinMap.get p).set nv).respond .ok 0x00)

/-- RDIN s (R152): the raw input-data byte of one set; DISP untouched. -/
def execRdin (r : RegSet) (s : State) : Host.Outcome State Fault Refusal :=
  let t := s.txr (offIn r)
  .next (t.respond .ok t.tRes)

/-- ALLHI (R153): InvalidOperation in Input mode if ALL_GUARDED; else two writes of ALL_HIGH_BYTE. -/
def execAllhi (s : State) : Host.Outcome State Fault Refusal :=
  let hi0 := s.allHigh .set1
  let hi1 := s.allHigh .set2
  .next (if s.bulkWriteRejected then s.raise .invalidOp
    else ((((s.txw (offOut .set1) hi0).setSh .set1 hi0).txw (offOut .set2) hi1).setSh .set2 hi1).respond .ok 0x00)

/-- ALLLO (R154): as ALLHI with 0x00, all eight bits of each byte. -/
def execAlllo (s : State) : Host.Outcome State Fault Refusal :=
  .next (if s.bulkWriteRejected then s.raise .invalidOp
    else ((((s.txw (offOut .set1) 0x00).setSh .set1 0x00).txw (offOut .set2) 0x00).setSh .set2 0x00).respond .ok 0x00)

end Sys2Proof.Machine
end

