-- ==== Sys2Proof/Machine/ModePoll.lean ====
section
/-! DEFINITION. The commands of the mode machine and of the polling loop: SWOUT (R181), SWIN (R182), TICK (R185). -/

namespace Sys2Proof.Machine

/-- SWOUT (R181): both directions to output, then MODE and the display; SH neither read nor written. -/
def execSwout (s : State) : Host.Outcome State Fault Refusal :=
  let dirs := (s.txw (offDir .set1) 0xFF).txw (offDir .set2) 0xFF
  .next (dirs.enterOutput.respond .ok 0x01)

/-- SWIN (R182): the quirk sequence, in the order of its four steps; it ends with both directions at output
(R183). -/
def execSwin (s : State) : Host.Outcome State Fault Refusal :=
  let step1 := (s.txw (offDir .set1) 0x00).txw (offDir .set2) 0x00
  let step2 := step1.enterInput
  let step3 := (step2.txw (offDir .set1) 0xFF).txw (offDir .set2) 0xFF
  let step4 := (step3.zeroShadows.txw (offOut .set1) 0x00).txw (offOut .set2) 0x00
  .next (step4.respond .ok 0x00)

/-- TICK (R185): in Output mode nothing; in Input mode both input bytes are read, SET1 first, and shown. -/
def execTick (s : State) : Host.Outcome State Fault Refusal :=
  let read0 := (s.txr (offIn .set1)).keepSample .set1
  let read1 := (read0.txr (offIn .set2)).keepSample .set2
  .next (if s.mode = .output then s.endTick else read1.showLevels.endTick)

end Sys2Proof.Machine
end

