-- ==== Sys2Proof/Machine/PortOps.lean ====
section
/-! DEFINITION. The seven port micro-operations (R129 to R135): each is one step of SEQ and one port operation;
none can fail (R138). -/

namespace Sys2Proof.Machine

/-- ST_CLR (R129). -/
def execStClr (s : State) : Host.Outcome State Fault Refusal := .next s.clearStatus

/-- SET_CMD off (R130). -/
def execSetCmd (off : Byte) (s : State) : Host.Outcome State Fault Refusal := .next (s.setTarget off)

/-- SET_SLV_W (R131). -/
def execSetSlvW (s : State) : Host.Outcome State Fault Refusal := .next s.addressForWrite

/-- SET_SLV_R (R132). -/
def execSetSlvR (s : State) : Host.Outcome State Fault Refusal := .next s.addressForRead

/-- SET_DATA val (R133). -/
def execSetData (val : Byte) (s : State) : Host.Outcome State Fault Refusal := .next (s.setPayload val)

/-- GO (R134). -/
def execGo (s : State) : Host.Outcome State Fault Refusal := .next s.startTransfer

/-- GET_DATA (R135). -/
def execGetData (s : State) : Host.Outcome State Fault Refusal := .next s.sampleData

end Sys2Proof.Machine
end

