-- ==== Sys2Proof/Machine/Sequencer.lean ====
section
/-! DEFINITION. The commands of the transaction sequencer: WRREG (R125) and RDREG (R126). -/

namespace Sys2Proof.Machine

/-- WRREG off, val (R125): one write transaction; not guarded; SH, MODE and DISP untouched (R79). -/
def execWrreg (off val : Byte) (s : State) : Host.Outcome State Fault Refusal :=
  .next ((s.txw off val).respond .ok 0x00)

/-- RDREG off (R126): one read transaction; the byte read is the response. -/
def execRdreg (off : Byte) (s : State) : Host.Outcome State Fault Refusal :=
  let t := s.txr off
  .next (t.respond .ok t.tRes)

end Sys2Proof.Machine
end

