-- ==== Sys2Proof/Machine/Dispatch.lean ====
section
/-! DEFINITION. exec: one arm per instruction, each a direct call of its meaning. -/

namespace Sys2Proof.Machine

def exec (i : Instr) (s : State) : Host.Outcome State Fault Refusal :=
  match i with
  | .wrreg off val => Sys2Proof.Machine.execWrreg off val s
  | .rdreg off => Sys2Proof.Machine.execRdreg off s
  | .setdir r ao => Sys2Proof.Machine.execSetdir r ao s
  | .wrbit p h => Sys2Proof.Machine.execWrbit p h s
  | .rdin r => Sys2Proof.Machine.execRdin r s
  | .swout => Sys2Proof.Machine.execSwout s
  | .swin => Sys2Proof.Machine.execSwin s
  | .allhi => Sys2Proof.Machine.execAllhi s
  | .alllo => Sys2Proof.Machine.execAlllo s
  | .tick => Sys2Proof.Machine.execTick s
  | .stClr => Sys2Proof.Machine.execStClr s
  | .setCmd off => Sys2Proof.Machine.execSetCmd off s
  | .setSlvW => Sys2Proof.Machine.execSetSlvW s
  | .setSlvR => Sys2Proof.Machine.execSetSlvR s
  | .setData val => Sys2Proof.Machine.execSetData val s
  | .go => Sys2Proof.Machine.execGo s
  | .getData => Sys2Proof.Machine.execGetData s

end Sys2Proof.Machine
end

