-- ==== Sys2Proof/Machine/Micro.lean ====
section
/-! DEFINITION. The small-step level (R10, R24, R123, R124): each command's micro-program as a straight line of
items, the walk of UPC through it, and the wait. Every port operation is the exec of its micro-operation. -/

namespace Sys2Proof.Machine

/-- One item of a micro-program (R24): a transaction, an internal assignment, a test, or the end. -/
inductive Item where
  /-- The mode guard: ends the command with InvalidOperation if it rejects (R184, R139 (b)). -/
  | guard (rejected : Bool)
  /-- TICK's mode test: ends the command if MODE = Output (R185, R139 (c)). -/
  | modeTest (skip : Bool)
  /-- TXW(off, val). -/
  | write (off val : Byte)
  /-- TXR(off). -/
  | read (off : Byte)
  /-- SH[r] <- v. -/
  | shadow (r : RegSet) (v : Byte)
  /-- SH[0] <- 0x00; SH[1] <- 0x00. -/
  | zeroShadows
  /-- MODE <- Input. -/
  | enterInput
  /-- MODE <- Output, DISP <- Blank. -/
  | enterOutput
  /-- IN0 or IN1 <- T_RES. -/
  | keep (r : RegSet)
  /-- DISP from IN0 and IN1. -/
  | showLevels
  /-- respond(OK, d). -/
  | respond (d : Byte)
  /-- The end of TICK. -/
  | endTick
deriving DecidableEq, Repr

/-- The micro-program of a command: the lines of its pseudocode in their order (D24; log entry 13). The bytes in
it are those the state gives now. A port micro-operation is no command and has none. -/
def program (s : State) : Instr → List Item
  | .wrreg off val => [.write off val, .respond 0x00]
  | .rdreg off => [.read off, .respond s.tRes]
  | .setdir r ao => [.write (offDir r) (dirByte ao), .respond 0x00]
  | .wrbit p h =>
    [.guard s.pinWriteRejected, .write (s.pinOffset p) (s.pinByte p h),
      .shadow (s.cfg.pinMap.get p).set (s.pinByte p h), .respond 0x00]
  | .rdin r => [.read (offIn r), .respond s.tRes]
  | .swout => [.write (offDir .set1) 0xFF, .write (offDir .set2) 0xFF, .enterOutput, .respond 0x01]
  | .swin =>
    [.write (offDir .set1) 0x00, .write (offDir .set2) 0x00, .enterInput,
      .write (offDir .set1) 0xFF, .write (offDir .set2) 0xFF, .zeroShadows,
      .write (offOut .set1) 0x00, .write (offOut .set2) 0x00, .respond 0x00]
  | .allhi =>
    [.guard s.bulkWriteRejected, .write (offOut .set1) (s.allHigh .set1), .shadow .set1 (s.allHigh .set1),
      .write (offOut .set2) (s.allHigh .set2), .shadow .set2 (s.allHigh .set2), .respond 0x00]
  | .alllo =>
    [.guard s.bulkWriteRejected, .write (offOut .set1) 0x00, .shadow .set1 0x00,
      .write (offOut .set2) 0x00, .shadow .set2 0x00, .respond 0x00]
  | .tick =>
    [.modeTest (s.mode == .output), .read (offIn .set1), .keep .set1, .read (offIn .set2), .keep .set2,
      .showLevels, .endTick]
  | .stClr => []
  | .setCmd _ => []
  | .setSlvW => []
  | .setSlvR => []
  | .setData _ => []
  | .go => []
  | .getData => []

/-- The command word in the latch (R27). -/
def State.latched (s : State) : CmdWord := CmdWord.ofBytes s.cOp s.cA s.cB

/-- The first step of an item: a transaction loads its latches and performs ST_CLR; any other item is done. -/
def State.startItem (s : State) : Item → Host.Outcome State Fault Refusal
  | .guard rejected => .next (if rejected then s.raise .invalidOp else s.endItem)
  | .modeTest skip => .next (if skip then s.endTick else s.endItem)
  | .write off val => exec .stClr (s.loadWrite off val)
  | .read off => exec .stClr (s.loadRead off)
  | .shadow r v => .next (s.setSh r v).endItem
  | .zeroShadows => .next s.zeroShadows.endItem
  | .enterInput => .next s.enterInput.endItem
  | .enterOutput => .next s.enterOutput.endItem
  | .keep r => .next (s.keepSample r).endItem
  | .showLevels => .next s.showLevels.endItem
  | .respond d => .next (s.respond .ok d)
  | .endTick => .next s.endTick

/-- One clock step in S_WAIT: W_CNT counts the pulses, and the (n+1)-th ends the wait (R124, D15). -/
def State.waitStep (s : State) (tu : Bool) : State :=
  if tu then
    let t : State := { s with wCnt := s.wCnt + 1 }
    if t.wCnt.toNat = waitUnits s.tRd + 1 then t.endWait else t
  else s

/-- One small step of a busy block (R123): the action of phase PH, or at PH = S_CLR the start of the item at CS.
An ill-formed latch, which no run loads, ends as the decoder ends any ill-formed word (R139 (a)). -/
def State.microStep (s : State) (tu : Bool) : Host.Outcome State Fault Refusal :=
  match s.ph with
  | .sClr =>
    match decodeCmd s.latched with
    | .error _ => .next (s.raise .illegalCmd)
    | .ok i =>
      match (program s i)[s.cs.toNat]? with
      | none => .fault .csOutsideProgram
      | some item => s.startItem item
  | .sCmd => exec (.setCmd s.tOff) s
  | .sSlv => if s.tRd then exec .setSlvR s else exec .setSlvW s
  | .sDat => exec (.setData s.tVal) s
  | .sGo => exec .go s
  | .sWait => .next (s.waitStep tu)
  | .sSmp => exec .getData s

end Sys2Proof.Machine
end

