-- ==== Sys2Proof/Machine/Agents.lean ====
section
/-! DEFINITION. What happens around a command in one clock step: the input levels (R36), LOADER (R253, R254), the
poll timer (R26, R186), reset (R250), and the acceptance of a command or a tick (R36, R187, R217). -/

namespace Sys2Proof.Machine

/-- What the outside does in the coming clock step; nothing where nothing is listed. -/
def State.cycle (s : State) : Cycle := s.inputs.headD Cycle.quiet

/-- A clock step begins: its inputs are taken, and the pulse of `rsp_valid` is over. -/
def State.beginCycle (s : State) : State := { s with inputs := s.inputs.tail, rspValid := false }

/-- LOADER reports: the status counts once, and Ok raises EN (R212, R253; log entry 20). -/
def State.loaderReports (s : State) (report : Option LoadStatus) : State :=
  match s.load, report with
  | none, some st => { s with load := some st, en := st == .ok && !s.released }
  | _, _ => s

/-- `deinitialize()`: EN is low from now on (R254). -/
def State.releaseBus (s : State) (release : Bool) : State :=
  if release then { s with en := false, released := true } else s

/-- The input levels of a clock step, the word HOST begins to present in it, and what ENV does in it of its own
accord. -/
def State.levels (s : State) (c : Cycle) : State :=
  let t := (s.loaderReports c.load).releaseBus c.release
  { t with pollEn := c.pollEn.getD t.pollEn, cmds := t.cmds ++ c.cmd.toList, env := t.env.drift c.chip }

/-- A tick is raised in this clock step: POLL_CNT returns to 0 (R26), or, in the untimed grain, TIMER simply does
(R186; log entry 15). -/
def State.tickRaised (s : State) (c : Cycle) : Bool :=
  s.en && s.pollEn && ((c.tu && decide (199 ≤ s.pollCnt.toNat)) || (s.grain == .big && c.tick))

/-- POLL_CNT in this clock step (R26). -/
def State.countPoll (s : State) (c : Cycle) : State :=
  if s.en && s.pollEn then
    if c.tu then { s with pollCnt := if 199 ≤ s.pollCnt.toNat then 0 else s.pollCnt + 1 } else s
  else { s with pollCnt := 0 }

/-- `rst` (R250, R37): every piece of the block's state at its reset value, no port operation; the input levels,
LOADER, HOST and the parameters stay, and ENV stays too unless a command was in progress (U11). A word at the port is not
accepted in this clock step and stays (log entry 35). -/
def State.blockReset (s : State) : State :=
  { State.reset with
    pollEn := s.pollEn
    en := s.en
    load := s.load
    released := s.released
    cmds := s.cmds
    inputs := s.inputs
    env := if s.busy then s.env.forget else s.env
    cfg := s.cfg
    grain := s.grain }

/-- A command word is accepted: it is latched and BUSY is 1, at item 0 (R24, R27). -/
def State.accept (s : State) (src : Source) (w : CmdWord) : State :=
  { s with
    busy := true
    cs := 0
    ph := .sClr
    cOp := CmdWord.op w
    cA := CmdWord.a w
    cB := CmdWord.b w
    cSrc := src }

/-- An accepted command runs whole in the same step (big-step) or from the next step on (small-step) (R10). -/
def State.start (s : State) (i : Instr) : Host.Outcome State Fault Refusal :=
  match s.grain with
  | .big => exec i s
  | .small => .next s

/-- The word at the command port is accepted; the decoder ends an ill-formed one at once (R99, R139 (a), R214,
R217 (c); log entry 12). -/
def State.takeCommand (s : State) (w : CmdWord) (rest : List CmdWord) : Host.Outcome State Fault Refusal :=
  let t : State := { s with cmds := rest }
  match decodeCmd w with
  | .error _ => .next (t.raise .illegalCmd)
  | .ok i => (t.accept .host w).start i

/-- The word the block loads for a tick (R27). -/
def tickWord : CmdWord := 0x400000

/-- A tick raised while the block is idle is taken (R187). -/
def State.takeTick (s : State) : Host.Outcome State Fault Refusal := (s.accept .timer tickWord).start .tick

/-- An idle block (R187, R217 (b)): a tick that meets a waiting command goes first only if the outside so orders;
else the command is accepted and the tick dropped (D27; log entry 17). -/
def State.idleStep (s : State) (tick tickFirst : Bool) : Host.Outcome State Fault Refusal :=
  match s.cmds with
  | [] => if tick then s.takeTick else .next s
  | w :: rest => if tick && tickFirst then s.takeTick else s.takeCommand w rest

/-- The rest of a clock step, after levels and timer: inert without EN (R36, R212), one small step of the command in
progress, in which a tick is lost (R187), or an idle step. -/
def State.work (s : State) (c : Cycle) (tick : Bool) : Host.Outcome State Fault Refusal :=
  if s.en then
    if s.busy then s.microStep c.tu else s.idleStep tick c.tickFirst
  else .next s

/-- One clock step. Another agent on the five ports has no meaning here (R224, U5; log entry 18). -/
def State.clock (s : State) (c : Cycle) : Host.Outcome State Fault Refusal :=
  if c.foreign then .refused .foreignAgent
  else
    let t := s.levels c
    if c.rst then .next t.blockReset else (t.countPoll c).work c (t.tickRaised c)

/-- The output `cmd_ready` in a clock step, by the formula of R36. In a clock step with `rst` high the spec does not say
what it shows; that it is as without `rst`, although no word is accepted then and a word at the port stays there, is the
model's choice (DESIGN CHOICE, log entry 35). -/
def State.cmdReady (s : State) (c : Cycle) : Bool :=
  let t := s.levels c
  t.en && !t.busy && !(t.tickRaised c && (c.tickFirst || t.cmds.isEmpty))

/-- The state in which HOST presents a word to an idle, enabled block whose next clock step is quiet. -/
def State.presenting (s : State) (w : CmdWord) : State :=
  { s with
    en := true
    busy := false
    cs := 0
    ph := .sClr
    grain := .big
    inputs := Cycle.quiet :: s.inputs
    cmds := w :: s.cmds }

/-- The state in which the sequencer stands at a phase of the first transaction of a WRREG or RDREG. -/
def State.inTransaction (s : State) (rd : Bool) (off val : Byte) (ph : Phase) : State :=
  { s with
    en := true
    busy := true
    cs := 0
    ph := ph
    tRd := rd
    tOff := off
    tVal := val
    cOp := if rd then 0x02 else 0x01
    cA := off
    cB := if rd then 0x00 else val
    cSrc := .host
    grain := .small
    inputs := Cycle.quiet :: s.inputs }

/-- The state whose next step performs a port micro-operation; a command is not fetched so. -/
def State.beforePortOp (s : State) : Instr → State
  | .stClr => s.inTransaction false 0 0 .sClr
  | .setCmd off => s.inTransaction false off 0 .sCmd
  | .setSlvW => s.inTransaction false 0 0 .sSlv
  | .setSlvR => s.inTransaction true 0 0 .sSlv
  | .setData val => s.inTransaction false 0 val .sDat
  | .go => s.inTransaction false 0 0 .sGo
  | .getData => s.inTransaction true 0 0 .sSmp
  | .wrreg _ _ => s
  | .rdreg _ => s
  | .setdir _ _ => s
  | .wrbit _ _ => s
  | .rdin _ => s
  | .swout => s
  | .swin => s
  | .allhi => s
  | .alllo => s
  | .tick => s

/-- The state in which a port-operation word is the next one performed; a word that is none of the seven has no
place in the block (R92). -/
def State.fetchingPort (s : State) (w : PortWord) : State :=
  match decodePort w with
  | .ok i => s.beforePortOp i
  | .error _ => s

end Sys2Proof.Machine
end

