-- ==== Sys2Proof/Machine/Step.lean ====
section
/-! DEFINITION. One step of the machine, and the state whose next step runs a given word of the opcode table. -/

namespace Sys2Proof.Machine

/-- One step: one clock step of the block with the inputs of that step. In the big-step grain a whole command. -/
def step (s : State) : Host.Outcome State Fault Refusal := s.beginCycle.clock s.cycle

/-- The state that runs the given word next: a command word stands at the command port of an idle, enabled block;
a port operation is the one the sequencer is about to perform (log entry 2). -/
def State.withFetchWord (s : State) (nbits w : Nat) : State :=
  if nbits ≤ 24 then s.presenting (BitVec.ofNat 24 w) else s.fetchingPort (BitVec.ofNat 25 w)

end Sys2Proof.Machine
end

