-- ==== Sys2Proof/Safety.lean ====
section
/-! DEFINITION. The terms the claims are stated in: transactions as they stand in TRACE, the effect of a
transaction on the environment, and the invariants of the state (R35). -/

namespace Sys2Proof.Machine

/-! Transactions in TRACE. -/

/-- What TXW(off, val) appends to TRACE, in R121's own words. -/
def writeEntries (off val : Byte) : List TraceEntry :=
  [.pw 0x0400 0x42, .pw 0x0403 off, .pw 0x0404 0x9C, .pw 0x0405 val, .pw 0x0402 0x48, .wait 1]

/-- What TXR(off) -> v appends to TRACE, in R122's own words. -/
def readEntries (off v : Byte) : List TraceEntry :=
  [.pw 0x0400 0x42, .pw 0x0403 off, .pw 0x0404 0x9D, .pw 0x0402 0x48, .wait 2, .pr 0x0405 v]

/-- A whole transaction: W(off, val) or R(off) -> v. -/
inductive Transaction where
  | write (off val : Byte)
  | read (off v : Byte)
deriving DecidableEq, Repr

/-- The entries of a whole transaction. -/
def Transaction.entries : Transaction → List TraceEntry
  | .write off val => writeEntries off val
  | .read off v => readEntries off v

/-- The entries of the transaction in progress, by PH and the latches (R24). -/
def State.partialEntries (s : State) : List TraceEntry :=
  match s.ph with
  | .sClr => []
  | .sCmd => [.pw 0x0400 0x42]
  | .sSlv => [.pw 0x0400 0x42, .pw 0x0403 s.tOff]
  | .sDat => [.pw 0x0400 0x42, .pw 0x0403 s.tOff, .pw 0x0404 0x9C]
  | .sGo => if s.tRd then (readEntries s.tOff 0).take 3 else (writeEntries s.tOff s.tVal).take 4
  | .sWait => if s.tRd then (readEntries s.tOff 0).take 4 else (writeEntries s.tOff s.tVal).take 5
  | .sSmp => (readEntries s.tOff 0).take 5

/-- How many port writes a TRACE holds (R137). -/
def portWrites (t : List TraceEntry) : Nat :=
  t.countP fun e => match e with | .pw _ _ => true | .pr _ _ => false | .wait _ => false

/-- How many port reads a TRACE holds (R137). -/
def portReads (t : List TraceEntry) : Nat :=
  t.countP fun e => match e with | .pw _ _ => false | .pr _ _ => true | .wait _ => false

/-- How many time units its waits take at the least (R137). -/
def leastUnits (t : List TraceEntry) : Nat :=
  (t.map fun e => match e with | .pw _ _ => 0 | .pr _ _ => 0 | .wait n => n).sum

/-- What the controller's latches hold after a TRACE, and the last byte a trigger sent to one chip register. -/
structure WriteLog where
  cmd : Byte
  slv : Byte
  data : Byte
  last : Option Byte
deriving DecidableEq, Repr

/-- One entry read into the log of the chip register `off`. -/
def WriteLog.read (off : Byte) (l : WriteLog) : TraceEntry → WriteLog
  | .pw p v =>
    if p = 0x0403 then { l with cmd := v }
    else if p = 0x0404 then { l with slv := v }
    else if p = 0x0405 then { l with data := v }
    else if p = 0x0402 ∧ v = 0x48 ∧ l.slv = 0x9C ∧ l.cmd = off then { l with last := some l.data }
    else l
  | .pr _ _ => l
  | .wait _ => l

/-- The last byte the block has written to the chip register `off` by a write transaction (R35 (b)). -/
def lastWritten (off : Byte) (t : List TraceEntry) : Option Byte :=
  (t.foldl (WriteLog.read off) ⟨0, 0, 0, none⟩).last

/-! The effect of transactions on the environment. -/

/-- What a transfer does to the chip at its trigger under the oracle: the next free effect, and nothing else (U3, U14;
log entries 6 and 33). A register that the effect does not name is as it was. -/
def OracleTransfer (e e' : Env) : Prop :=
  e'.effects = e.effects.tail ∧ e'.transfers = e.transfers + 1
    ∧ (∀ o : Byte, e'.chipByte o = (e.changeChip e.nextEffect).chipByte o)
    ∧ ∀ o : Byte, (∀ v : Byte, (o, v) ∉ e.nextEffect) → e'.chipByte o = e.chipByte o

/-- One write transfer of `val` to the chip register `off`: no draw is taken; the latches hold what was written and no
other port changes (log entry 34). What the chip does is free under the oracle; in ENV_REF the register takes the byte and every
other register is as it was (R74). -/
def WriteEffect (off val : Byte) (e e' : Env) : Prop :=
  e'.kind = e.kind ∧ e'.answers = e.answers ∧ e'.draws = e.draws ∧ e'.epoch = e.epoch
    ∧ e'.ioByte 0x0403 = off ∧ e'.ioByte 0x0404 = 0x9C ∧ e'.ioByte 0x0405 = val
    ∧ (∀ p : Port, p ≠ 0x0403 → p ≠ 0x0404 → p ≠ 0x0405 → e'.ioByte p = e.ioByte p)
    ∧ (e.kind = .oracle → OracleTransfer e e')
    ∧ (e.kind = .reference → e'.effects = e.effects ∧ e'.transfers = e.transfers
        ∧ e'.chipByte off = val ∧ ∀ o : Byte, o ≠ off → e'.chipByte o = e.chipByte o)

/-- One read transfer from the chip register `off` that returned `v`: the latches hold what was written and the byte
returned, and no other port changes (log entry 34). Under the oracle `v` is the next draw and what the chip does is free; in ENV_REF
`v` is the next draw for an input-data register and what the register holds for any other, and no chip register
changes (R74). -/
def ReadEffect (off v : Byte) (e e' : Env) : Prop :=
  e'.kind = e.kind ∧ e'.epoch = e.epoch
    ∧ e'.ioByte 0x0403 = off ∧ e'.ioByte 0x0404 = 0x9D ∧ e'.ioByte 0x0405 = v
    ∧ (∀ p : Port, p ≠ 0x0403 → p ≠ 0x0404 → p ≠ 0x0405 → e'.ioByte p = e.ioByte p)
    ∧ (if e.kind = .oracle ∨ off = 0x12 ∨ off = 0x22
        then v = e.nextByte ∧ e'.answers = e.answers.tail ∧ e'.draws = e.draws + 1
        else v = e.chipByte off ∧ e'.answers = e.answers ∧ e'.draws = e.draws)
    ∧ (e.kind = .oracle → OracleTransfer e e')
    ∧ (e.kind = .reference → e'.effects = e.effects ∧ e'.transfers = e.transfers
        ∧ ∀ o : Byte, e'.chipByte o = e.chipByte o)

/-- Write transfers one after the other. -/
def WritesEffect : List (Byte × Byte) → Env → Env → Prop
  | [], e, e' => e' = e
  | (off, val) :: ws, e, e' => ∃ e1, WriteEffect off val e e1 ∧ WritesEffect ws e1 e'

/-- A port latches a byte: the port holds it, no other port and nothing else of the environment changes. -/
def LatchEffect (p : Port) (v : Byte) (e e' : Env) : Prop :=
  e' = { e with io := e'.io } ∧ e'.ioByte p = v ∧ ∀ q : Port, q ≠ p → e'.ioByte q = e.ioByte q

/-- The transfer started with what CMD, SLV and DATA hold (R66 (d), R74). Under the oracle no port changes (log entries 9
and 34) and no draw is taken, and what the chip does is free. In ENV_REF: SLV = 0x9C, the register named by CMD takes DATA; SLV = 0x9D,
DATA takes the register, or a draw for an input-data register; any other SLV, nothing. -/
def TriggerEffect (e e' : Env) : Prop :=
  let off := e.ioByte 0x0403
  e'.kind = e.kind ∧ e'.epoch = e.epoch
    ∧ (∀ p : Port, p ≠ 0x0405 → e'.ioByte p = e.ioByte p)
    ∧ (e.kind = .oracle →
        e'.io = e.io ∧ e'.answers = e.answers ∧ e'.draws = e.draws ∧ OracleTransfer e e')
    ∧ (e.kind = .reference → e'.effects = e.effects ∧ e'.transfers = e.transfers
        ∧ (∀ o : Byte, o ≠ off → e'.chipByte o = e.chipByte o)
        ∧ (if e.ioByte 0x0404 = 0x9C then
            e'.io = e.io ∧ e'.answers = e.answers ∧ e'.draws = e.draws ∧ e'.chipByte off = e.ioByte 0x0405
          else if e.ioByte 0x0404 = 0x9D then
            e'.chip = e.chip
              ∧ (if off = 0x12 ∨ off = 0x22
                then e'.ioByte 0x0405 = e.nextByte ∧ e'.answers = e.answers.tail ∧ e'.draws = e.draws + 1
                else e'.ioByte 0x0405 = e.chipByte off ∧ e'.answers = e.answers ∧ e'.draws = e.draws)
          else e' = e))

/-- A read of DATA that returned `v`: under the oracle the next draw, which is then what sits in DATA; in ENV_REF
what DATA holds. -/
def SampleEffect (v : Byte) (e e' : Env) : Prop :=
  if e.kind = .oracle then
    v = e.nextByte ∧ LatchEffect 0x0405 v { e with answers := e.answers.tail, draws := e.draws + 1 } e'
  else v = e.ioByte 0x0405 ∧ e' = e

/-- The command that the coming clock step works on: in a busy block the latched one, else the word at the port. -/
def State.current (s : State) : Option Instr :=
  if s.busy then (decodeCmd s.latched).toOption
  else match (s.beginCycle.levels s.cycle).cmds with
    | [] => none
    | w :: _ => (decodeCmd w).toOption

/-- An idle block may take a tick in the coming clock step. -/
def State.tickComing (s : State) : Prop :=
  s.busy = false ∧ (s.beginCycle.levels s.cycle).tickRaised s.cycle = true

/-! Invariants. -/

/-- An item that is a transaction in the direction `rd`. -/
def Item.isTransaction (rd : Bool) : Item → Bool
  | .write _ _ => !rd
  | .read _ => rd
  | .guard _ => false
  | .modeTest _ => false
  | .shadow _ _ => false
  | .zeroShadows => false
  | .enterInput => false
  | .enterOutput => false
  | .keep _ => false
  | .showLevels => false
  | .respond _ => false
  | .endTick => false

/-- UPC is legal (R24, R35 (a)): an idle block stands at (0, 0, 0); a busy one has a well-formed command latched,
CS names an item of its micro-program, and inside a transaction that item is one, in T_RD's direction. -/
def UpcInv (s : State) : Prop :=
  (s.busy = false → s.cs = 0 ∧ s.ph = .sClr)
    ∧ (s.busy = true → ∃ i item, decodeCmd s.latched = .ok i ∧ (program s i)[s.cs.toNat]? = some item
        ∧ (s.ph ≠ .sClr → item.isTransaction s.tRd = true))

/-- TRACE is a concatenation of whole transactions, and of the part of one in progress (R68, R69). -/
def TraceInv (s : State) : Prop :=
  (s.busy = false → s.ph = .sClr) ∧ (s.ph = .sDat → s.tRd = false) ∧ (s.ph = .sSmp → s.tRd = true)
    ∧ ∃ txs : List Transaction, s.trace = txs.flatMap Transaction.entries ++ s.partialEntries

/-- In Output mode the display is blank (R188), and a TICK in progress in Output mode stands at its mode test. -/
def DisplayInv (s : State) : Prop :=
  (s.mode = .output → s.disp = PerPin.all .blank)
    ∧ (s.busy = true → s.mode = .output → decodeCmd s.latched = .ok .tick → s.cs = 0 ∧ s.ph = .sClr)

/-- R35 (c): a set whose ALL_HIGH_BYTE has only mapped bits has only mapped bits in its shadow. -/
def ShadowMaskInv (s : State) : Prop :=
  ∀ r : RegSet, s.allHigh r &&& ~~~(pinMask s.cfg.pinMap r) = 0 → s.sh r &&& ~~~(pinMask s.cfg.pinMap r) = 0

/-- The memories of the environment keep their canonical form. -/
def MemoryInv (s : State) : Prop :=
  Memory.wf (2 ^ 16) s.env.io = true ∧ Memory.wf (2 ^ 8) s.env.chip = true

/-- POLL_CNT stays below the period, and holds 0 with either enable low (R26). -/
def PollInv (s : State) : Prop :=
  s.pollCnt.toNat < 200 ∧ (s.en = false ∨ s.pollEn = false → s.pollCnt = 0)

/-- HOST issues no raw write to an output-data register: neither now nor in the listed clock steps (R35 (b)). -/
def NoRawOutputWrite (s : State) : Prop :=
  ∀ w : CmdWord, (w ∈ s.cmds ∨ ∃ c ∈ s.inputs, c.cmd = some w) →
    ∀ v : Byte, decodeCmd w ≠ .ok (.wrreg 0x11 v) ∧ decodeCmd w ≠ .ok (.wrreg 0x21 v)

/-- R35 (b), between commands: the last byte the block has written to a set's output-data register, if there is
one, is the set's shadow. -/
def MirrorInv (s : State) : Prop :=
  s.grain = .big ∧ s.busy = false ∧ NoRawOutputWrite s
    ∧ ∀ (r : RegSet) (v : Byte), lastWritten (offOut r) s.trace = some v → s.sh r = v

/-! Small-step and big-step. -/

/-- A clock step that neither resets, releases the bus, reports a load status nor is disturbed; the pulse, the
tick, POLL_EN, what HOST presents and what ENV does to the chip are free. -/
def Cycle.undisturbed (c : Cycle) : Bool := !c.rst && !c.foreign && !c.release && c.load.isNone

/-- The environment without the chip registers of the oracle, which change of their own accord while time passes (log
entry 33). -/
def Env.settled (e : Env) : Env :=
  match e.kind with
  | .oracle => { e with chip := [] }
  | .reference => e

/-- A state without what only a timed or a waiting observer sees: the two counters, the inputs to come, the level of
POLL_EN, the words HOST holds ready, and the chip registers of the oracle. -/
def State.untimed (s : State) : State :=
  { s with pollCnt := 0, wCnt := 0, inputs := [], pollEn := false, cmds := [], env := s.env.settled }

/-- A command was accepted in the small-step grain and has not begun (R24). -/
def State.accepted (s : State) (i : Instr) : Prop :=
  s.en = true ∧ s.grain = .small ∧ s.busy = true ∧ s.cs = 0 ∧ s.ph = .sClr ∧ s.rspValid = false
    ∧ decodeCmd s.latched = .ok i

end Sys2Proof.Machine
end

