-- ==== Sys2Proof/Certificates/Slice0/Obligations.lean ====
section
/-! DEFINITION. The statements for the provers. Each docstring names the rules of spec/ it rests on, and says where a
clause is the spec's own decision (D<n>) or the model's own choice (log entry <n>). -/

open Sys2Proof Sys2Proof.Machine

/-! ## Encodings -/

/-- Decoding an instruction's encoding gives the instruction back, with every operand (R91, R92, R95, R96). The
packing of the words is the spec's own decision D2. -/
def Obligations.DecodeOfEncodeIsIdentity : Prop :=
  ∀ i : Instr, decode (encode i) = .ok i

/-- A word that decodes is the encoding of what it decodes to: each instruction has one word (R92, R96; D2). -/
def Obligations.EncodeOfDecodeIsIdentity : Prop :=
  ∀ (w : CodeWord) (i : Instr), decode w = .ok i → encode i = w

/-- The decoder accepts exactly the well-formed words: the ten opcodes with every reserved bit zero (R99, decision
D19) and the seven port operations (R92). A command word never decodes to a micro-operation, and a port-operation
word always does (R138). -/
def Obligations.DecoderAcceptsExactlyWellFormedWords : Prop :=
  (∀ w : CodeWord, (∃ i, decode w = .ok i) ↔ w.wellFormed = true)
    ∧ (∀ (w : CmdWord) (i : Instr), decodeCmd w = .ok i → i.hostIssuable = true)
    ∧ (∀ (w : PortWord) (i : Instr), decodePort w = .ok i → i.hostIssuable = false)

/-- The worked encodings of R102, the seven port-operation words of R92 with the operands of R130 and R133, and the
illegal examples of R102. -/
def Obligations.WorkedEncodingsDecode : Prop :=
  [0x01115A, 0x021200, 0x100000, 0x100101, 0x110201, 0x110700, 0x120000, 0x120100, 0x200000, 0x210000, 0x300000,
      0x310000, 0x400000].map (fun w => (decodeCmd w).toOption)
    = [some (.wrreg 0x11 0x5A), some (.rdreg 0x12), some (.setdir .set1 false), some (.setdir .set2 true),
      some (.wrbit 2 true), some (.wrbit 7 false), some (.rdin .set1), some (.rdin .set2), some .swout, some .swin,
      some .allhi, some .alllo, some .tick]
  ∧ [0x1040042, 0x1040321, 0x104049C, 0x104049D, 0x1040504, 0x1040248, 0x0040500].map
      (fun w => (decodePort w).toOption)
    = [some .stClr, some (.setCmd 0x21), some .setSlvW, some .setSlvR, some (.setData 0x04), some .go, some .getData]
  ∧ [0x000000, 0x110801, 0x100002, 0x200001, 0x020001, 0xFF0000].map (fun w => (decodeCmd w).toOption)
    = [none, none, none, none, none, none]

/-! ## The step runs the decoded instruction -/

/-- A word at the command port of an idle, enabled block is accepted: the word is latched (C_OP, C_A, C_B), BUSY is 1 and
the word has left the port; a tick of the same step is dropped unless it goes first (R27, R36, R187, D27). In the
big-step grain the step is exec of the decoded command in that state; in the small-step grain it is that state, from
which the command's micro-program starts (R10, R24; the two grains are log entry 3). -/
def Obligations.StepRunsPresentedCommand : Prop :=
  ∀ (s t u : State) (w : CmdWord) (rest : List CmdWord) (i : Instr),
    t = s.beginCycle.levels s.cycle → s.cycle.foreign = false → s.cycle.rst = false →
    t.en = true → t.busy = false → t.cmds = w :: rest →
    (t.tickRaised s.cycle = true → s.cycle.tickFirst = false) → decodeCmd w = .ok i →
    u = { t.countPoll s.cycle with
        cmds := rest, busy := true, cs := 0, ph := .sClr
        cOp := w.extractLsb' 16 8, cA := w.extractLsb' 8 8, cB := w.extractLsb' 0 8, cSrc := .host } →
    (t.grain = .big → step s = exec i u) ∧ (t.grain = .small → step s = .next u ∧ u.accepted i)

/-- A tick raised while the block is idle is taken, where no command waits or the tick goes first: the word 0x400000 is
latched, and the waiting words stay at the port (R27, R187, R217 (b), D27). In the big-step grain the step is exec of
TICK in that state; in the small-step grain it is that state (log entry 3). -/
def Obligations.StepRunsTakenTick : Prop :=
  ∀ s t u : State,
    t = s.beginCycle.levels s.cycle → s.cycle.foreign = false → s.cycle.rst = false →
    t.en = true → t.busy = false → t.tickRaised s.cycle = true →
    (t.cmds = [] ∨ s.cycle.tickFirst = true) →
    u = { t.countPoll s.cycle with
        busy := true, cs := 0, ph := .sClr, cOp := 0x40, cA := 0x00, cB := 0x00, cSrc := .timer } →
    (t.grain = .big → step s = exec .tick u) ∧ (t.grain = .small → step s = .next u ∧ u.accepted .tick)

/-- In a busy block each step of a transaction is exec of the micro-operation of its phase, with the operand from the
latches (R24, R123, R138): S_CMD to S_GO and S_SMP; at S_CLR the item at CS loads the latches and ST_CLR runs; in S_WAIT
it is one clock step of the wait (R124, WaitEndsOnThePulseAfterItsUnits). -/
def Obligations.StepRunsPortOperation : Prop :=
  ∀ s t : State,
    t = (s.beginCycle.levels s.cycle).countPoll s.cycle → s.cycle.foreign = false → s.cycle.rst = false →
    t.en = true → t.busy = true →
    (t.ph = .sCmd → step s = exec (.setCmd t.tOff) t)
      ∧ (t.ph = .sSlv → t.tRd = false → step s = exec .setSlvW t)
      ∧ (t.ph = .sSlv → t.tRd = true → step s = exec .setSlvR t)
      ∧ (t.ph = .sDat → step s = exec (.setData t.tVal) t)
      ∧ (t.ph = .sGo → step s = exec .go t)
      ∧ (t.ph = .sWait → step s = .next (t.waitStep s.cycle.tu))
      ∧ (t.ph = .sSmp → step s = exec .getData t)
      ∧ (∀ (i : Instr) (off val : Byte), t.ph = .sClr → decodeCmd t.latched = .ok i →
          (program t i)[t.cs.toNat]? = some (.write off val) →
          step s = exec .stClr { t with tRd := false, tOff := off, tVal := val })
      ∧ (∀ (i : Instr) (off : Byte), t.ph = .sClr → decodeCmd t.latched = .ok i →
          (program t i)[t.cs.toNat]? = some (.read off) →
          step s = exec .stClr { t with tRd := true, tOff := off })

/-- A word placed where the step fetches is the instruction the very next step runs, command words and
port-operation words alike, on the mode, shadows, display, TRACE, environment and parameters as they were (log
entry 2: the placing is the model's own). -/
def Obligations.PlacedWordIsRunNext : Prop :=
  (∀ (s : State) (w : CmdWord) (i : Instr), decodeCmd w = .ok i →
    ∃ t : State, step (s.withFetchWord 24 w.toNat) = exec i t ∧ t.mode = s.mode ∧ t.sh0 = s.sh0 ∧ t.sh1 = s.sh1
      ∧ t.disp = s.disp ∧ t.trace = s.trace ∧ t.env = s.env ∧ t.cfg = s.cfg ∧ t.cSrc = .host)
  ∧ (∀ (s : State) (w : PortWord) (i : Instr), decodePort w = .ok i →
    ∃ t : State, step (s.withFetchWord 32 w.toNat) = exec i t ∧ t.mode = s.mode ∧ t.sh0 = s.sh0 ∧ t.sh1 = s.sh1
      ∧ t.disp = s.disp ∧ t.trace = s.trace ∧ t.env = s.env ∧ t.cfg = s.cfg)

/-! ## The sequencer -/

/-- WRREG off, val (R125, R121): for any offset and value and in any state the command completes; TRACE gains the six
entries of TXW(off, val); the latches hold the transaction; the response is (OK, 0x00) and the block is idle; nothing
else of the block changes but the wait counter, MODE, SH and DISP among it. What the environment and the wait counter
hold then is TransactionsActOnTheEnvironment. -/
def Obligations.WrregPerformsOneWriteTransaction : Prop :=
  ∀ (off val : Byte) (s : State),
    encode (.wrreg off val) = .cmd (0x01#8 ++ off ++ val)
    ∧ ∃ (e : Env) (n : BitVec 2),
      exec (.wrreg off val) s = .next { s with
        trace := s.trace ++ [.pw 0x0400 0x42, .pw 0x0403 off, .pw 0x0404 0x9C, .pw 0x0405 val, .pw 0x0402 0x48, .wait 1]
        tRd := false, tOff := off, tVal := val, wCnt := n
        rspSt := .ok, rspD := 0x00, rspValid := true, responses := s.responses ++ [⟨.ok, 0x00⟩]
        busy := false, cs := 0, ph := .sClr, env := e }

/-- RDREG off (R126, R122): TRACE gains the six entries of TXR(off), the byte v that the environment supplies is left
in T_RES and answered (OK, v); nothing else of the block changes but the wait counter, T_VAL, MODE, SH and DISP as they
were. The byte is under no law: for every v some environment supplies it. What the environment and the wait counter
hold then is TransactionsActOnTheEnvironment. -/
def Obligations.RdregPerformsOneReadTransaction : Prop :=
  ∀ (off : Byte) (s : State),
    let after := fun (v : Byte) (n : BitVec 2) (e : Env) => { s with
        trace := s.trace ++ [.pw 0x0400 0x42, .pw 0x0403 off, .pw 0x0404 0x9D, .pw 0x0402 0x48, .wait 2, .pr 0x0405 v]
        tRd := true, tOff := off, tRes := v, wCnt := n
        rspSt := .ok, rspD := v, rspValid := true, responses := s.responses ++ [⟨.ok, v⟩]
        busy := false, cs := 0, ph := .sClr, env := e }
    encode (.rdreg off) = .cmd (0x02#8 ++ off ++ 0x00#8)
    ∧ (∃ (v : Byte) (n : BitVec 2) (e : Env), exec (.rdreg off) s = .next (after v n e))
    ∧ ∀ v : Byte, ∃ (e0 : Env) (n : BitVec 2) (e : Env),
        exec (.rdreg off) { s with env := e0 } = .next (after v n e)

/-- What a transaction does to the environment (R66 (d), R67, R73, R74, R213, U3, U14; log entries 5, 6, 8, 9, 33 and 34), and
the wait counter it leaves (log entry 14): WRREG and SETDIR trigger one write transfer to the register they name, RDREG
and RDIN one read transfer from it. Under the oracle what a transfer does to the chip is a free effect, and a register
that this effect does not name is as it was; in ENV_REF a write transfer stores the byte in the register it names, and
no other chip register changes. -/
def Obligations.TransactionsActOnTheEnvironment : Prop :=
  ∀ s : State,
    (∀ off val : Byte, ∃ t : State, exec (.wrreg off val) s = .next t ∧ WriteEffect off val s.env t.env ∧ t.wCnt = 0)
    ∧ (∀ off : Byte, ∃ t : State, exec (.rdreg off) s = .next t ∧ ReadEffect off t.tRes s.env t.env ∧ t.wCnt = 0)
    ∧ (∀ (r : RegSet) (ao : Bool), ∃ t : State, exec (.setdir r ao) s = .next t ∧ t.wCnt = 0
        ∧ WriteEffect (if r = .set1 then 0x10 else 0x20) (if ao then 0xFF else 0x00) s.env t.env)
    ∧ (∀ r : RegSet, ∃ t : State, exec (.rdin r) s = .next t ∧ t.wCnt = 0
        ∧ ReadEffect (if r = .set1 then 0x12 else 0x22) t.tRes s.env t.env)

/-- ST_CLR (R129), SET_CMD (R130), SET_SLV_W (R131), SET_SLV_R (R132), SET_DATA (R133): each has the port-operation word
of its rule (R92; the packing is decision D2), runs in its phase with the operand of its latch, appends its one port
write to TRACE, moves PH on, and changes nothing else of the block; the port latches the byte and nothing else of the
environment changes (R66 (d)). The phase of ST_CLR is in StepRunsPortOperation, and what it does to the environment in
MicroOperationsAreSingleStepsThatCannotFail. -/
def Obligations.MicroOperationsWriteTheirPort : Prop :=
  ∀ (s : State) (tu : Bool),
    (encode .stClr = .port 0x1040042 ∧ ∃ e : Env,
        exec .stClr s = .next { s with trace := s.trace ++ [.pw 0x0400 0x42], ph := .sCmd, env := e })
    ∧ (∀ off : Byte, encode (.setCmd off) = .port (0x1040300 ||| off.setWidth 25)
        ∧ ∃ e : Env, LatchEffect 0x0403 off s.env e ∧
        exec (.setCmd off) s = .next { s with trace := s.trace ++ [.pw 0x0403 off], ph := .sSlv, env := e })
    ∧ (encode .setSlvW = .port 0x104049C ∧ ∃ e : Env, LatchEffect 0x0404 0x9C s.env e ∧
        exec .setSlvW s = .next { s with trace := s.trace ++ [.pw 0x0404 0x9C], ph := .sDat, env := e })
    ∧ (encode .setSlvR = .port 0x104049D ∧ ∃ e : Env, LatchEffect 0x0404 0x9D s.env e ∧
        exec .setSlvR s = .next { s with trace := s.trace ++ [.pw 0x0404 0x9D], ph := .sGo, env := e })
    ∧ (∀ val : Byte, encode (.setData val) = .port (0x1040500 ||| val.setWidth 25)
        ∧ ∃ e : Env, LatchEffect 0x0405 val s.env e ∧
        exec (.setData val) s = .next { s with trace := s.trace ++ [.pw 0x0405 val], ph := .sGo, env := e })
    ∧ (s.ph = .sCmd → s.microStep tu = exec (.setCmd s.tOff) s)
    ∧ (s.ph = .sSlv → s.microStep tu = if s.tRd then exec .setSlvR s else exec .setSlvW s)
    ∧ (s.ph = .sDat → s.microStep tu = exec (.setData s.tVal) s)

/-- Common to the seven micro-operations (R138): each completes in every state, adds one entry to TRACE, that entry is the
port operation its word encodes, it answers nothing, and no command word decodes to one. ST_CLR leaves the latches and
the chip as they were; that it changes nothing else of the environment is log entry 24. -/
def Obligations.MicroOperationsAreSingleStepsThatCannotFail : Prop :=
  (∀ (i : Instr) (s : State), i.hostIssuable = false →
    ∃ (t : State) (e : TraceEntry) (w : PortWord), exec i s = .next t ∧ t.trace = s.trace ++ [e]
      ∧ e.portWord = some w ∧ encode i = .port w ∧ t.responses = s.responses ∧ t.rspValid = s.rspValid
      ∧ t.mode = s.mode ∧ t.sh0 = s.sh0 ∧ t.sh1 = s.sh1 ∧ t.disp = s.disp ∧ t.busy = s.busy
      ∧ (i = .stClr → t.env = s.env))
    ∧ ∀ (w : CmdWord) (i : Instr), decodeCmd w = .ok i → i.hostIssuable = true

/-- GO (R134): PW(0x0402, 0x48), PH <- S_WAIT, W_CNT cleared; the transfer starts with what the latches hold (R66 (d));
what it does to the chip is free under the oracle, at the trigger (log entry 6) and later (log entry 33), and no port
changes there (log entries 9 and 34); in ENV_REF it is R74's (log entry 8). -/
def Obligations.GoTriggersTheTransfer : Prop :=
  ∀ s : State, ∃ e : Env, TriggerEffect s.env e ∧
    exec .go s = .next { s with trace := s.trace ++ [.pw 0x0402 0x48], ph := .sWait, wCnt := 0, env := e }

/-- GET_DATA (R135): T_RES takes the byte read from 0x0405, TRACE gains PR(0x0405) = v, the transaction item ends
(CS + 1, PH = S_CLR). Under the oracle v is a draw (R73), taken as log entry 5 says, and that DATA then holds v is log
entry 9; in ENV_REF v is what DATA holds, which it keeps (R74, decision D18, log entry 8). That no other port changes
is log entry 34. -/
def Obligations.GetDataSamplesTheDataPort : Prop :=
  ∀ s : State, ∃ (v : Byte) (e : Env), SampleEffect v s.env e ∧
    exec .getData s = .next { s with
      trace := s.trace ++ [.pr 0x0405 v], tRes := v, cs := s.cs + 1, ph := .sClr, env := e }

/-- The wait (R124, decisions D15, D16; that the last pulse is counted too is log entry 14, and that TRACE stays as it is
while pulses count and gains the marker when the wait ends is log entry 21). In S_WAIT a clock step
without a pulse changes nothing, whatever W_CNT holds; a pulse counts in W_CNT, and the one that brings it to n + 1 ends
the wait with the marker WAIT(n), n = 1 for a write, which ends the item, and n = 2 for a read, which goes on to S_SMP.
So, with W_CNT cleared, up to n pulses only count, and the (n+1)-th ends the wait. -/
def Obligations.WaitEndsOnThePulseAfterItsUnits : Prop :=
  ∀ s : State, s.ph = .sWait →
    s.microStep false = .next s
    ∧ s.microStep true = .next (
        if s.tRd then
          if s.wCnt = 2 then { s with wCnt := 3, trace := s.trace ++ [.wait 2], ph := .sSmp }
          else { s with wCnt := s.wCnt + 1 }
        else
          if s.wCnt = 1 then { s with wCnt := 2, trace := s.trace ++ [.wait 1], cs := s.cs + 1, ph := .sClr }
          else { s with wCnt := s.wCnt + 1 })
    ∧ (∀ tu : Bool, s.microStep tu = .next (s.waitStep tu))
    ∧ (s.wCnt = 0 →
      (∀ k : Nat, k ≤ (if s.tRd then 2 else 1) →
        (fun u : State => u.waitStep true)^[k] s = { s with wCnt := BitVec.ofNat 2 k })
      ∧ (s.tRd = false → (fun u : State => u.waitStep true)^[2] s =
          { s with wCnt := 2, trace := s.trace ++ [.wait 1], cs := s.cs + 1, ph := .sClr })
      ∧ (s.tRd = true → (fun u : State => u.waitStep true)^[3] s =
          { s with wCnt := 3, trace := s.trace ++ [.wait 2], ph := .sSmp }))

/-! ## The GPIO register model -/

/-- SETDIR s, ao (R150): one write transaction of 0x00 or 0xFF to the set's direction register; (OK, 0x00); nothing
else of the block changes but the wait counter, MODE, SH and DISP as they were, in either mode. What the environment
and the wait counter hold then is TransactionsActOnTheEnvironment. -/
def Obligations.SetdirWritesTheWholeDirectionByte : Prop :=
  ∀ (r : RegSet) (ao : Bool) (s : State), ∃ (e : Env) (n : BitVec 2),
    let off : Byte := if r = .set1 then 0x10 else 0x20
    let val : Byte := if ao then 0xFF else 0x00
    encode (.setdir r ao) = .cmd (0x10#8 ++ (if r = .set1 then 0x00#8 else 0x01#8) ++ (if ao then 0x01#8 else 0x00#8))
    ∧ exec (.setdir r ao) s = .next { s with
      trace := s.trace ++ writeEntries off val
      tRd := false, tOff := off, tVal := val, wCnt := n
      rspSt := .ok, rspD := 0x00, rspValid := true, responses := s.responses ++ [⟨.ok, 0x00⟩]
      busy := false, cs := 0, ph := .sClr, env := e }

/-- WRBIT p, h in Output mode (R151; that the write is performed also when the bit has the level is decision D14):
with (set, bit) the pin's place in PINMAP and nv the set's shadow with that bit set or cleared, one write
transaction of nv to the set's output-data register, then SH[set] = nv and the other shadow as it was; (OK, 0x00);
nothing else of the block changes. What the transfer does to the chip is log entries 6, 8, 33 and 34; that W_CNT is 0 then is
log entry 14. -/
def Obligations.WrbitInOutputModeWritesTheShadowByte : Prop :=
  ∀ (p : LogicalPin) (h : Bool) (s : State), s.mode = .output → ∃ e : Env,
    let pos := s.cfg.pinMap.get p
    let old : Byte := if pos.set = .set1 then s.sh0 else s.sh1
    let nv : Byte := if h then old ||| (1#8 <<< pos.bit.val) else old &&& ~~~(1#8 <<< pos.bit.val)
    let off : Byte := if pos.set = .set1 then 0x11 else 0x21
    WriteEffect off nv s.env e ∧
    exec (.wrbit p h) s = .next { s with
      sh0 := if pos.set = .set1 then nv else s.sh0
      sh1 := if pos.set = .set1 then s.sh1 else nv
      trace := s.trace ++ writeEntries off nv
      tRd := false, tOff := off, tVal := nv, wCnt := 0
      rspSt := .ok, rspD := 0x00, rspValid := true, responses := s.responses ++ [⟨.ok, 0x00⟩]
      busy := false, cs := 0, ph := .sClr, env := e }

/-- InvalidOperation (R211): in Input mode WRBIT, and ALLHI and ALLLO when ALL_GUARDED, end with (INVALID_OP, 0x00),
the block idle; no port operation, SH, MODE, DISP, TRACE and everything else as they were. -/
def Obligations.PinWritesAreRejectedInInputMode : Prop :=
  ∀ (s : State) (i : Instr), s.mode = .input →
    ((∃ p h, i = .wrbit p h) ∨ (s.cfg.allGuarded = true ∧ (i = .allhi ∨ i = .alllo))) →
    exec i s = .next { s with
      rspSt := .invalidOp, rspD := 0x00, rspValid := true, responses := s.responses ++ [⟨.invalidOp, 0x00⟩]
      busy := false, cs := 0, ph := .sClr }

/-- RDIN s (R152): one read transaction of the set's input-data register, the raw byte left in T_RES and answered
(OK, v), in both modes; nothing else of the block changes but the wait counter, DISP as it was. The byte is under no
law: for every v some environment supplies it. -/
def Obligations.RdinReadsTheInputByte : Prop :=
  ∀ (r : RegSet) (s : State),
    let off : Byte := if r = .set1 then 0x12 else 0x22
    let after := fun (v : Byte) (n : BitVec 2) (e : Env) => { s with
      trace := s.trace ++ readEntries off v
      tRd := true, tOff := off, tRes := v, wCnt := n
      rspSt := .ok, rspD := v, rspValid := true, responses := s.responses ++ [⟨.ok, v⟩]
      busy := false, cs := 0, ph := .sClr, env := e }
    encode (.rdin r) = .cmd (0x12#8 ++ (if r = .set1 then 0x00#8 else 0x01#8) ++ 0x00#8)
    ∧ (∃ (v : Byte) (n : BitVec 2) (e : Env), exec (.rdin r) s = .next (after v n e))
    ∧ ∀ v : Byte, ∃ (e0 : Env) (n : BitVec 2) (e : Env), exec (.rdin r) { s with env := e0 } = .next (after v n e)

/-- ALLHI where it is not rejected (R153; its shape and order are decisions D7, D12, D13, its guard D11): two write
transactions of ALL_HIGH_BYTE, SET1 then SET2, both shadows those bytes; (OK, 0x00); nothing else of the block changes.
What the transfers do to the chip is log entries 6, 8, 33 and 34; that W_CNT is 0 then is log entry 14. -/
def Obligations.AllhiWritesBothHighBytes : Prop :=
  ∀ s : State, (s.mode = .output ∨ s.cfg.allGuarded = false) → ∃ e : Env,
    WritesEffect [(0x11, s.cfg.allHigh0), (0x21, s.cfg.allHigh1)] s.env e ∧
    exec .allhi s = .next { s with
      sh0 := s.cfg.allHigh0, sh1 := s.cfg.allHigh1
      trace := s.trace ++ writeEntries 0x11 s.cfg.allHigh0 ++ writeEntries 0x21 s.cfg.allHigh1
      tRd := false, tOff := 0x21, tVal := s.cfg.allHigh1, wCnt := 0
      rspSt := .ok, rspD := 0x00, rspValid := true, responses := s.responses ++ [⟨.ok, 0x00⟩]
      busy := false, cs := 0, ph := .sClr, env := e }

/-- ALLLO where it is not rejected (R154; order D7, guard D11): two write transactions of 0x00, SET1 then SET2, both
shadows 0x00, all eight bits; (OK, 0x00); nothing else of the block changes. What the transfers do to the chip is log
entries 6, 8, 33 and 34; that W_CNT is 0 then is log entry 14. -/
def Obligations.AllloWritesBothBytesZero : Prop :=
  ∀ s : State, (s.mode = .output ∨ s.cfg.allGuarded = false) → ∃ e : Env,
    WritesEffect [(0x11, 0x00), (0x21, 0x00)] s.env e ∧
    exec .alllo s = .next { s with
      sh0 := 0x00, sh1 := 0x00
      trace := s.trace ++ writeEntries 0x11 0x00 ++ writeEntries 0x21 0x00
      tRd := false, tOff := 0x21, tVal := 0x00, wCnt := 0
      rspSt := .ok, rspD := 0x00, rspValid := true, responses := s.responses ++ [⟨.ok, 0x00⟩]
      busy := false, cs := 0, ph := .sClr, env := e }

/-- The idempotence of set-all-pins-low (95_test_vectors.md S-P2, read as 90_conflicts.md C4 resolves it): where it is
not rejected, issued twice it leaves both shadows 0x00 and performs the same two writes each time. -/
def Obligations.AllloTwiceRepeatsTheSameTwoWrites : Prop :=
  ∀ s t u : State, (s.mode = .output ∨ s.cfg.allGuarded = false) →
    exec .alllo s = .next t → exec .alllo t = .next u →
    t.sh0 = 0x00 ∧ t.sh1 = 0x00 ∧ u.sh0 = 0x00 ∧ u.sh1 = 0x00
      ∧ t.trace = s.trace ++ (writeEntries 0x11 0x00 ++ writeEntries 0x21 0x00)
      ∧ u.trace = t.trace ++ (writeEntries 0x11 0x00 ++ writeEntries 0x21 0x00)

/-- The laws of the bit arithmetic (R155, R156; the laws are the spec's own derivation): bit b is set or cleared, every
other bit is as it was, clearing after setting is clearing, and it restores the byte iff the bit was 0. -/
def Obligations.BitLawsOfTheShadow : Prop :=
  ∀ (v : Byte) (b c : Fin 8),
    bitHigh v b = v.getLsbD b.val
    ∧ bitHigh (setBit v b) b = true ∧ bitHigh (clrBit v b) b = false
    ∧ (c ≠ b → bitHigh (setBit v b) c = bitHigh v c ∧ bitHigh (clrBit v b) c = bitHigh v c)
    ∧ setBit (setBit v b) b = setBit v b ∧ clrBit (clrBit v b) b = clrBit v b
    ∧ clrBit (setBit v b) b = clrBit v b
    ∧ (clrBit (setBit v b) b = v ↔ bitHigh v b = false)

/-- H-11 (R265, derived; 90_conflicts.md C5): in Output mode a pin set high and then low restores both shadows
exactly when its bit was 0 before; whatever it was, every other bit of both shadows is as before. -/
def Obligations.PinRoundTripRestoresIffBitWasZero : Prop :=
  ∀ (p : LogicalPin) (s t u : State), s.mode = .output →
    exec (.wrbit p true) s = .next t → exec (.wrbit p false) t = .next u →
    ((u.sh0 = s.sh0 ∧ u.sh1 = s.sh1) ↔
        bitHigh (s.sh (s.cfg.pinMap.get p).set) (s.cfg.pinMap.get p).bit = false)
      ∧ ∀ (r : RegSet) (b : Fin 8), PinPos.mk r b ≠ s.cfg.pinMap.get p → bitHigh (u.sh r) b = bitHigh (s.sh r) b

/-- PINMASK of an admissible pin map never has bit 3 or 5 (R34), PINMAP_REF is admissible with the masks R34 gives, the
machine's own map is admissible (log entry 4), and input bytes with only bits 3 and 5 set show every pin Low under
every admissible map (95_test_vectors.md M14). -/
def Obligations.AdmissiblePinMapsAvoidBitsThreeAndFive : Prop :=
  (∀ (m : PinMap) (r : RegSet), m.admissible = true → pinMask m r &&& 0x28 = 0)
    ∧ (∀ (m : PinMap) (p : LogicalPin), m.admissible = true → pinLevel 0x28 0x28 (m.get p) = .low)
    ∧ PinMap.reference.admissible = true
    ∧ pinMask PinMap.reference .set1 = 0xD7 ∧ pinMask PinMap.reference .set2 = 0x03
    ∧ Config.params.pinMap.admissible = true

/-! ## The mode machine and the poll -/

/-- SWOUT (R181; the order of the sets is D7, blanking with the mode record D20, the confirmation D21): from either
mode, W(0x10, 0xFF), W(0x20, 0xFF), MODE = Output, DISP blank, (OK, 0x01); SH and everything else of the block as it was.
What the transfers do to the chip is log entries 6, 8, 33 and 34; that W_CNT is 0 then is log entry 14. -/
def Obligations.SwoutSwitchesToOutput : Prop :=
  ∀ s : State, ∃ e : Env,
    WritesEffect [(0x10, 0xFF), (0x20, 0xFF)] s.env e ∧
    exec .swout s = .next { s with
      mode := .output
      disp := ⟨.blank, .blank, .blank, .blank, .blank, .blank, .blank, .blank⟩
      trace := s.trace ++ writeEntries 0x10 0xFF ++ writeEntries 0x20 0xFF
      tRd := false, tOff := 0x20, tVal := 0xFF, wCnt := 0
      rspSt := .ok, rspD := 0x01, rspValid := true, responses := s.responses ++ [⟨.ok, 0x01⟩]
      busy := false, cs := 0, ph := .sClr, env := e }

/-- SWIN (R182; the order inside each pair is D7, DISP left alone D20): from either mode the six writes of the quirk
sequence in their order, MODE = Input, both shadows 0x00, (OK, 0x00); DISP and everything else of the block as it was.
What the transfers do to the chip is log entries 6, 8, 33 and 34; that W_CNT is 0 then is log entry 14. -/
def Obligations.SwinRunsTheQuirkSequence : Prop :=
  ∀ s : State, ∃ e : Env,
    WritesEffect [(0x10, 0x00), (0x20, 0x00), (0x10, 0xFF), (0x20, 0xFF), (0x11, 0x00), (0x21, 0x00)] s.env e ∧
    exec .swin s = .next { s with
      mode := .input, sh0 := 0x00, sh1 := 0x00
      trace := s.trace ++ writeEntries 0x10 0x00 ++ writeEntries 0x20 0x00 ++ writeEntries 0x10 0xFF
        ++ writeEntries 0x20 0xFF ++ writeEntries 0x11 0x00 ++ writeEntries 0x21 0x00
      tRd := false, tOff := 0x21, tVal := 0x00, wCnt := 0
      rspSt := .ok, rspD := 0x00, rspValid := true, responses := s.responses ++ [⟨.ok, 0x00⟩]
      busy := false, cs := 0, ph := .sClr, env := e }

/-- The standing inconsistency after SWIN (R183, R191 (a)), whatever was done before: the last bytes the block has
written are 0xFF to both direction registers and 0x00 to both output-data registers, with MODE = Input. That the chip
then holds them is said of ENV_REF alone, and rests on R74 (decision D18) and log entry 8. -/
def Obligations.SwinLeavesDirectionsAtOutput : Prop :=
  ∀ s t : State, exec .swin s = .next t →
    t.mode = .input
      ∧ lastWritten 0x10 t.trace = some 0xFF ∧ lastWritten 0x20 t.trace = some 0xFF
      ∧ lastWritten 0x11 t.trace = some 0x00 ∧ lastWritten 0x21 t.trace = some 0x00
      ∧ (s.env.kind = .reference →
          t.env.chipByte 0x10 = 0xFF ∧ t.env.chipByte 0x20 = 0xFF
            ∧ t.env.chipByte 0x11 = 0x00 ∧ t.env.chipByte 0x21 = 0x00)

/-- TICK in Input mode (R185; order of the reads D7, D22): R(0x12) -> b0, R(0x22) -> b1, IN0 and IN1 those bytes, each
pin shown High or Low by its bit of its set's byte; answered (OK, 0x00) if the word came from HOST and not at all if
TIMER raised it (log entry 10); MODE, SH and everything else of the block as it was. The bytes and what the transfers do
to the environment are log entries 5, 6, 8, 9, 33 and 34; that W_CNT is 0 then is log entry 14. -/
def Obligations.TickInInputModeShowsTheSampledLevels : Prop :=
  ∀ s : State, s.mode = .input → ∃ (b0 b1 : Byte) (e1 e2 : Env) (d : PerPin DispLevel),
    ReadEffect 0x12 b0 s.env e1 ∧ ReadEffect 0x22 b1 e1 e2
    ∧ (∀ p : LogicalPin, d.get p =
        if (if (s.cfg.pinMap.get p).set = .set1 then b0 else b1).getLsbD (s.cfg.pinMap.get p).bit.val
        then .high else .low)
    ∧ exec .tick s = .next { s with
      disp := d, in0 := b0, in1 := b1, tRes := b1
      trace := s.trace ++ readEntries 0x12 b0 ++ readEntries 0x22 b1
      tRd := true, tOff := 0x22, wCnt := 0
      rspSt := if s.cSrc = .host then .ok else s.rspSt
      rspD := if s.cSrc = .host then 0x00 else s.rspD
      rspValid := if s.cSrc = .host then true else s.rspValid
      responses := if s.cSrc = .host then s.responses ++ [⟨.ok, 0x00⟩] else s.responses
      busy := false, cs := 0, ph := .sClr, env := e2 }

/-- TICK in Output mode (R185; 95_test_vectors.md S-D): no bus read, nothing of TRACE, DISP, SH, MODE or the
environment changes; HOST's word is answered (OK, 0x00), TIMER's tick is not. -/
def Obligations.TickInOutputModeDoesNothing : Prop :=
  ∀ s : State, s.mode = .output →
    exec .tick s = .next { s with
      rspSt := if s.cSrc = .host then .ok else s.rspSt
      rspD := if s.cSrc = .host then 0x00 else s.rspD
      rspValid := if s.cSrc = .host then true else s.rspValid
      responses := if s.cSrc = .host then s.responses ++ [⟨.ok, 0x00⟩] else s.responses
      busy := false, cs := 0, ph := .sClr }

/-- MODE is written by SWOUT and SWIN alone (R21, R180), SH by WRBIT, ALLHI, ALLLO and SWIN alone (R22), DISP by TICK
and SWOUT alone (R25, R188); no instruction changes an enable, LOADER's state, HOST's queue, POLL_CNT or a parameter. -/
def Obligations.RegistersHaveOnlyTheirNamedWriters : Prop :=
  ∀ (i : Instr) (s t : State), exec i s = .next t →
    (i ≠ .swout → i ≠ .swin → t.mode = s.mode)
      ∧ ((∀ p h, i ≠ .wrbit p h) → i ≠ .allhi → i ≠ .alllo → i ≠ .swin → t.sh0 = s.sh0 ∧ t.sh1 = s.sh1)
      ∧ (i ≠ .tick → i ≠ .swout → t.disp = s.disp)
      ∧ t.en = s.en ∧ t.pollEn = s.pollEn ∧ t.load = s.load ∧ t.released = s.released ∧ t.cmds = s.cmds
      ∧ t.inputs = s.inputs ∧ t.pollCnt = s.pollCnt ∧ t.cfg = s.cfg ∧ t.grain = s.grain

/-- MODE has two transitions and no other way to change (R180): Input after reset; SWOUT and SWIN are taken from either
mode and run all of their transactions each time; a clock step that changes MODE is a reset or a step of one of the
two, latched in a busy block or accepted by an idle one. -/
def Obligations.ModeChangesOnlyThroughItsTwoTransitions : Prop :=
  State.reset.mode = .input
    ∧ (∀ s : State, ∃ (t : State) (txs : List Transaction), exec .swout s = .next t ∧ t.mode = .output
        ∧ txs.length = 2 ∧ t.trace = s.trace ++ txs.flatMap Transaction.entries)
    ∧ (∀ s : State, ∃ (t : State) (txs : List Transaction), exec .swin s = .next t ∧ t.mode = .input
        ∧ txs.length = 6 ∧ t.trace = s.trace ++ txs.flatMap Transaction.entries)
    ∧ ∀ s t : State, step s = .next t → t.mode ≠ s.mode →
        s.cycle.rst = true ∨ s.current = some .swout ∨ s.current = some .swin

/-- A clock step that is no reset changes SH only in WRBIT, ALLHI, ALLLO or SWIN (R22), and DISP only in TICK, from HOST or
from TIMER, or SWOUT (R25, R188, derived). -/
def Obligations.ShadowsAndDisplayChangeOnlyInTheirCommands : Prop :=
  ∀ s t : State, step s = .next t → s.cycle.rst = false →
    (t.sh0 ≠ s.sh0 ∨ t.sh1 ≠ s.sh1 →
        (∃ p h, s.current = some (.wrbit p h)) ∨ s.current = some .allhi ∨ s.current = some .alllo
          ∨ s.current = some .swin)
      ∧ (t.disp ≠ s.disp → s.current = some .tick ∨ s.current = some .swout ∨ s.tickComing)

/-- While MODE = Input and ALL_GUARDED, SH changes only through SWIN (R35 (e), derived; H-6, R260: the guard reads MODE
alone, whatever the environment holds). -/
def Obligations.GuardedInputModeKeepsTheShadows : Prop :=
  ∀ (i : Instr) (s t : State), s.mode = .input → s.cfg.allGuarded = true → exec i s = .next t →
    i ≠ .swin → t.sh0 = s.sh0 ∧ t.sh1 = s.sh1

/-- The counts of R137 (derived), for every command in either mode: port writes, port reads and least time units waited
that it adds to TRACE; none where it is rejected. -/
def Obligations.PortOperationCountsPerCommand : Prop :=
  ∀ (i : Instr) (s t : State), exec i s = .next t →
    ∀ n : Nat × Nat × Nat,
      (match i with
        | .wrreg _ _ => n = (5, 0, 1)
        | .rdreg _ => n = (4, 1, 2)
        | .setdir _ _ => n = (5, 0, 1)
        | .wrbit _ _ => n = if s.mode = .output then (5, 0, 1) else (0, 0, 0)
        | .rdin _ => n = (4, 1, 2)
        | .swout => n = (10, 0, 2)
        | .swin => n = (30, 0, 6)
        | .allhi => n = if s.mode = .output ∨ s.cfg.allGuarded = false then (10, 0, 2) else (0, 0, 0)
        | .alllo => n = if s.mode = .output ∨ s.cfg.allGuarded = false then (10, 0, 2) else (0, 0, 0)
        | .tick => n = if s.mode = .input then (8, 2, 4) else (0, 0, 0)
        | .stClr => False
        | .setCmd _ => False
        | .setSlvW => False
        | .setSlvR => False
        | .setData _ => False
        | .go => False
        | .getData => False) →
      portWrites t.trace = portWrites s.trace + n.1 ∧ portReads t.trace = portReads s.trace + n.2.1
        ∧ leastUnits t.trace = leastUnits s.trace + n.2.2

/-! ## Errors, responses, agents -/

/-- IllegalCommand (R214, decision D19; that the latches are not loaded is log entry 12): a word at the port of an
idle, enabled block that is not well formed is answered (ILLEGAL_CMD, 0x00) and changes nothing else, whatever MODE
is: the decoder runs before the guard (R217 (c)); it leaves the port. -/
def Obligations.IllegalWordIsAnsweredWithoutEffect : Prop :=
  ∀ (s t : State) (w : CmdWord) (rest : List CmdWord),
    t = s.beginCycle.levels s.cycle → s.cycle.foreign = false → s.cycle.rst = false →
    t.en = true → t.busy = false → t.cmds = w :: rest →
    (t.tickRaised s.cycle = true → s.cycle.tickFirst = false) → (CodeWord.cmd w).wellFormed = false →
    step s = .next { t.countPoll s.cycle with
      cmds := rest, busy := false, cs := 0, ph := .sClr
      rspSt := .illegalCmd, rspD := 0x00, rspValid := true, responses := s.responses ++ [⟨.illegalCmd, 0x00⟩] }

/-- One response for each command word accepted, none for a tick TIMER raised (R100, R28), in the big-step grain. -/
def Obligations.EveryAcceptedWordIsAnsweredOnce : Prop :=
  ∀ (s t u : State), t = s.beginCycle.levels s.cycle → s.cycle.foreign = false → s.cycle.rst = false →
    t.en = true → t.busy = false → t.grain = .big → step s = .next u →
    (∀ (w : CmdWord) (rest : List CmdWord), t.cmds = w :: rest →
        (t.tickRaised s.cycle = true → s.cycle.tickFirst = false) →
        u.cmds = rest ∧ u.rspValid = true ∧ ∃ r : Response, u.responses = s.responses ++ [r] ∧ u.response = r)
      ∧ (t.tickRaised s.cycle = true → t.cmds = [] ∨ s.cycle.tickFirst = true →
        u.cmds = t.cmds ∧ u.rspValid = false ∧ u.responses = s.responses)

/-- Without EN the block is inert (R36, R212, D23): it accepts nothing, performs nothing, POLL_CNT holds 0; in
mid-command too (log entry 16). ENV may act of its own accord (log entry 33). -/
def Obligations.BlockIsInertWithoutEnable : Prop :=
  ∀ s t : State, t = s.beginCycle.levels s.cycle → s.cycle.foreign = false → s.cycle.rst = false →
    t.en = false →
    step s = .next { t with pollCnt := 0 }
      ∧ t.trace = s.trace ∧ t.env = s.env.drift s.cycle.chip ∧ t.mode = s.mode ∧ t.sh0 = s.sh0 ∧ t.sh1 = s.sh1
      ∧ t.disp = s.disp
      ∧ t.responses = s.responses ∧ t.cmds = s.cmds ++ s.cycle.cmd.toList

/-- A load status other than Ok leaves EN low for the whole session (R212, D23): in the clock step that reports it, where
nothing was reported before, and in every later one, whatever is reported then (log entry 20); no port operation is
performed. -/
def Obligations.FailedLoadKeepsTheBlockDisabled : Prop :=
  ∀ (s t : State) (st : LoadStatus), step s = .next t →
    (s.load = none ∧ s.cycle.load = some st ∧ st ≠ .ok) ∨ (s.load = some st ∧ s.en = false) →
    t.en = false ∧ t.load = some st ∧ (s.cycle.rst = false → t.trace = s.trace ∧ t.responses = s.responses)

/-- EN and POLL_EN are levels that the outside drives (R26, R36): the first report Ok raises EN (R253), unless the bus was
released; deinitialize() lowers it, and it stays low (R254; that nothing raises it again is log entry 20); otherwise EN
stays as it is; POLL_EN takes the level the clock step gives it. -/
def Obligations.EnableFollowsLoaderAndRelease : Prop :=
  ∀ s t : State, step s = .next t →
    (s.load = none → s.cycle.load = some .ok → s.released = false → s.cycle.release = false →
        t.en = true ∧ t.load = some .ok)
      ∧ (s.cycle.release = true → t.en = false ∧ t.released = true)
      ∧ (s.released = true → s.en = false → t.en = false ∧ t.released = true)
      ∧ (s.load ≠ none ∨ s.cycle.load = none → s.cycle.release = false →
        t.en = s.en ∧ t.load = s.load ∧ t.released = s.released)
      ∧ t.pollEn = s.cycle.pollEn.getD s.pollEn

/-- A tick raised while the block is busy is lost, not queued (R187, D9). The next state of a busy block is the same,
POLL_CNT apart, whatever POLL_CNT was and whatever tick TIMER gave: in the timed grain a tick is raised by POLL_CNT, so
the step that raises one and a step that raises none leave the same state. Nothing is latched for it. -/
def Obligations.TickWhileBusyIsLost : Prop :=
  ∀ (s t : State) (n : BitVec 8) (tick first : Bool), s.busy = true → step s = .next t →
    (∃ m : BitVec 8,
        step { s with
          pollCnt := n, inputs := { s.cycle with tick := tick, tickFirst := first } :: s.inputs.tail }
        = .next { t with pollCnt := m })
      ∧ (s.cycle.rst = false → t.latched = s.latched ∧ t.cSrc = s.cSrc)

/-- POLL_CNT counts pulses modulo 200 while both enables are high (R26, D29), and in the timed grain a tick is raised by
exactly the pulse that returns it to 0; in a clock step without a pulse it stays and raises none. With an enable low it
holds 0 and no tick is raised in either grain. -/
def Obligations.PollCounterCountsModuloThePeriod : Prop :=
  ∀ (s : State) (c : Cycle) (n : Nat), s.pollCnt.toNat < 200 →
    (s.en = true → s.pollEn = true → c.tu = true →
      ((fun u : State => u.countPoll c)^[n] s).pollCnt.toNat = (s.pollCnt.toNat + n) % 200
        ∧ (s.grain = .small → (s.tickRaised c = true ↔ (s.countPoll c).pollCnt = 0)))
    ∧ (s.en = true → s.pollEn = true → c.tu = false →
        s.countPoll c = s ∧ (s.grain = .small → s.tickRaised c = false))
    ∧ (s.en = false ∨ s.pollEn = false → (s.countPoll c).pollCnt = 0 ∧ s.tickRaised c = false)

/-- Another agent on the five ports has no meaning: the step refuses by name (R224; treatment U5). -/
def Obligations.ForeignAccessIsRefused : Prop :=
  ∀ s : State, s.cycle.foreign = true → step s = .refused .foreignAgent

/-- The codes of R215 and R100 (D3), the encodings of R21 (D4) and R25 (D5), and the output channels of R36 (D1): mode,
busy, disp, the response port, whose word is packed as log entry 32 says and whose rsp_valid is high in the state after
the step that responds and in no other (log entry 11), the port operation at PIO as R91 packs it (D2), and cmd_ready,
which says of a clock step with a word at the port and without rst whether that word is accepted in it (with rst, log
entry 35). -/
def Obligations.OutputEncodings : Prop :=
  RspStatus.toBits .ok = 0 ∧ RspStatus.toBits .invalidOp = 1 ∧ RspStatus.toBits .illegalCmd = 2
    ∧ Mode.toBit .input = 0 ∧ Mode.toBit .output = 1
    ∧ DispLevel.toBits .blank = 0b00 ∧ DispLevel.toBits .low = 0b10 ∧ DispLevel.toBits .high = 0b11
    ∧ (∀ r : Response, r.word.extractLsb' 8 2 = r.status.toBits ∧ r.word.extractLsb' 0 8 = r.data)
    ∧ (∀ (s : State) (p : LogicalPin), s.dispOut.extractLsb' (2 * p.val) 2 = (s.disp.get p).toBits)
    ∧ (∀ s : State, s.modeOut = (if s.mode = .input then 0 else 1) ∧ s.busyOut = s.busy
        ∧ s.response.status = s.rspSt ∧ s.response.data = s.rspD)
    ∧ (∀ (p : Port) (v : Byte), (TraceEntry.pw p v).portWord = some (1#1 ++ p ++ v)
        ∧ (TraceEntry.pr p v).portWord = some (0#1 ++ p ++ 0#8))
    ∧ (∀ s t : State, step s = .next t → s.cycle.rst = false →
        (t.rspValid = true ↔ t.responses = s.responses ++ [t.response])
          ∧ (t.rspValid = false ↔ t.responses = s.responses))
    ∧ (∀ (s t u : State) (w : CmdWord) (rest : List CmdWord), t = s.beginCycle.levels s.cycle →
        t.cmds = w :: rest → step s = .next u → s.cycle.rst = false →
        (s.beginCycle.cmdReady s.cycle = true ↔
          t.en = true ∧ t.busy = false ∧ ¬ (t.tickRaised s.cycle = true ∧ s.cycle.tickFirst = true))
        ∧ u.cmds = if s.beginCycle.cmdReady s.cycle then rest else w :: rest)

/-! ## Reset -/

/-- The state right after reset (R37, R251): MODE = Input and both shadows 0x00 are the source's, the rest decision D17;
EN and POLL_EN low are log entry 1. -/
def Obligations.ResetStateIsTheTableOfR37 : Prop :=
  State.reset.mode = .input ∧ State.reset.sh0 = 0x00 ∧ State.reset.sh1 = 0x00
    ∧ State.reset.busy = false ∧ State.reset.cs = 0 ∧ State.reset.ph = .sClr
    ∧ State.reset.tOff = 0 ∧ State.reset.tVal = 0 ∧ State.reset.tRd = false ∧ State.reset.tRes = 0
    ∧ State.reset.cOp = 0 ∧ State.reset.cA = 0 ∧ State.reset.cB = 0
    ∧ State.reset.rspSt = .ok ∧ State.reset.rspD = 0 ∧ State.reset.rspValid = false
    ∧ State.reset.disp = ⟨.blank, .blank, .blank, .blank, .blank, .blank, .blank, .blank⟩
    ∧ State.reset.in0 = 0 ∧ State.reset.in1 = 0 ∧ State.reset.pollCnt = 0 ∧ State.reset.wCnt = 0
    ∧ State.reset.trace = [] ∧ State.reset.en = false ∧ State.reset.pollEn = false

/-- The reset input (R250, R37; D1, D17): in any state, in mid-transaction too, every piece of the block's state takes
its reset value and no port operation is performed; the enables (log entry 1, the model's choice), LOADER's records (log
entry 20), HOST's words (log entries 26 and 35) and the parameters (log entry 4) stay, and TRACE and the list of responses are
emptied (log entry 25); ENV keeps what it had in this step, or, if a command was in progress, nothing is known of it any
more (U11, log entry 7). -/
def Obligations.ResetInputResetsTheBlockAlone : Prop :=
  ∀ s t : State, t = s.beginCycle.levels s.cycle → s.cycle.foreign = false → s.cycle.rst = true →
    ∃ e : Env, (s.busy = false → e = t.env)
      ∧ (s.busy = true → e.io = [] ∧ e.chip = [] ∧ e.epoch = s.env.epoch + 1 ∧ e.answers = s.env.answers)
      ∧ step s = .next { State.reset with
        en := t.en, pollEn := t.pollEn, load := t.load, released := t.released, cmds := t.cmds, inputs := t.inputs
        cfg := s.cfg, grain := s.grain, env := e }

/-- Every invariant below holds of the state right after reset. -/
def Obligations.ResetMeetsTheInvariants : Prop :=
  UpcInv State.reset ∧ TraceInv State.reset ∧ DisplayInv State.reset ∧ ShadowMaskInv State.reset
    ∧ MemoryInv State.reset ∧ PollInv State.reset ∧ MirrorInv State.reset

/-! ## Invariants that every step keeps -/

/-- UPC stays legal and no step of a legal state faults (R24, R35 (a), R271): from a legal state, unless another agent
touches the ports, the step answers a next state, and that is legal. -/
def Obligations.LegalUpcStepsToLegalUpc : Prop :=
  ∀ s : State, UpcInv s → s.cycle.foreign = false → ∃ t : State, step s = .next t ∧ UpcInv t

/-- TRACE stays a concatenation of whole transactions and of the part of one in progress (R68, R69), in both grains:
no transaction's steps interleave with another's, and between commands TRACE is whole. That a wait in progress has left
no marker yet is log entry 21. -/
def Obligations.TraceStaysWholeTransactions : Prop :=
  ∀ s t : State, TraceInv s → step s = .next t → TraceInv t ∧
    (t.busy = false → ∃ txs : List Transaction, t.trace = txs.flatMap Transaction.entries)

/-- Every port operation the block ever performs is one of the seven of R92. -/
def Obligations.TraceHoldsOnlyTheSevenPortOperations : Prop :=
  ∀ s t : State, TraceInv s → step s = .next t → ∀ e ∈ t.trace, ∀ w : PortWord, e.portWord = some w →
    w = 0x1040042 ∨ (∃ off : Byte, w = PortWord.ofFields true 0x0403 off) ∨ w = 0x104049C ∨ w = 0x104049D
      ∨ (∃ val : Byte, w = PortWord.ofFields true 0x0405 val) ∨ w = 0x1040248 ∨ w = 0x0040500

/-- In Output mode the display stays blank (R188, derived). -/
def Obligations.DisplayStaysBlankInOutputMode : Prop :=
  ∀ s t : State, DisplayInv s → step s = .next t → DisplayInv t

/-- Where ALL_HIGH_BYTE has only mapped bits, a shadow never gains an unmapped bit (R35 (c), derived). -/
def Obligations.ShadowsKeepToMappedBits : Prop :=
  ∀ s t : State, ShadowMaskInv s → step s = .next t → ShadowMaskInv t

/-- The shadow stays the last byte the block wrote to the output-data register, as long as HOST issues no raw WRREG to
one (R22, R35 (b), R158), in the big-step grain. -/
def Obligations.ShadowsMirrorTheLastBytesWritten : Prop :=
  ∀ s t : State, MirrorInv s → step s = .next t → MirrorInv t

/-- The memories of the environment keep their canonical form: addresses that exist, strictly rising. The form is the
model's own choice (log entry 6); R31, R32 and R60 give the addresses. -/
def Obligations.MemoriesKeepTheirForm : Prop :=
  ∀ s t : State, MemoryInv s → step s = .next t → MemoryInv t

/-- POLL_CNT stays below 200 and holds 0 with either enable low (R26; D29). -/
def Obligations.PollCounterStaysInItsPeriod : Prop :=
  ∀ s t : State, PollInv s → step s = .next t → PollInv t

/-- No step changes PINMAP, ALL_GUARDED or ALL_HIGH_BYTE (R6, R30; carried in State by log entry 4). Nor does one change
the grain, which is a field of the model's own and no parameter of the spec (log entry 3, the model's choice). -/
def Obligations.StepsKeepTheParameters : Prop :=
  ∀ s t : State, step s = .next t → t.cfg = s.cfg ∧ t.grain = s.grain

/-! ## Whole-machine results -/

/-- The block cannot observe whether or when its transfers succeed (R127, R213, R255): two oracle environments that supply
the same bytes to reads, but differ in everything else, what they do to the chip in this step too (log entries 6 and 33),
lead to the same step of the block, and again to environments that supply the same bytes. -/
def Obligations.BlockCannotObserveTransferFailure : Prop :=
  ∀ (s t : State) (e : Env) (chip : ChipEffect), s.env.kind = .oracle → e.kind = .oracle →
    e.answers = s.env.answers → e.draws = s.env.draws → step s = .next t →
    ∃ e' : Env,
      step { s with env := e, inputs := { s.cycle with chip := chip } :: s.inputs.tail } = .next { t with env := e' }
      ∧ t.env.kind = .oracle ∧ e'.kind = .oracle ∧ e'.answers = t.env.answers ∧ e'.draws = t.env.draws

/-- The two levels of R10 agree: from a command accepted in the small-step grain, through any undisturbed clock steps,
however the pulses, ticks and further words fall, the state in which the block is idle for the first time is the
big-step result of the command, but for what only time shows (State.untimed). -/
def Obligations.SmallStepRunIsTheBigStep : Prop :=
  ∀ (i : Instr) (s t u : State) (n : Nat), s.accepted i → (∀ c ∈ s.inputs, c.undisturbed = true) →
    (∀ k < n, ∃ v : State, Host.Core.run Sys2Proof.core k s = .next v ∧ v.busy = true) →
    Host.Core.run Sys2Proof.core n s = .next t → t.busy = false →
    exec i s = .next u → t.untimed = u.untimed

/-- Every command terminates if time advances (R271, derived): with a pulse in each clock step an accepted command is
over within 45 steps, the length of SWIN's six write transactions of 7 steps and its three other items. The bound rests
on the wait ending on its (n+1)-th pulse (D15, log entry 14: R124 itself gives no upper bound) and on the items of log
entry 13. -/
def Obligations.AcceptedCommandEndsWithin45Pulses : Prop :=
  ∀ (i : Instr) (s : State), s.accepted i → 45 ≤ s.inputs.length →
    (∀ c ∈ s.inputs, c.undisturbed = true ∧ c.tu = true) →
    ∃ (n : Nat) (t : State), n ≤ 45 ∧ Host.Core.run Sys2Proof.core n s = .next t ∧ t.busy = false
end

