-- ==== Sys2Proof/Laws/Decode.lean ====
section
/-! SUPPORT. The fields of the two word formats: a word is made of its fields, and its fields are what it is made of. -/

namespace Sys2Proof

@[simp] theorem CmdWord.op_ofBytes (op a b : Byte) : CmdWord.op (CmdWord.ofBytes op a b) = op := by
  simp only [CmdWord.op, CmdWord.ofBytes]; ext i hi; simp; grind

@[simp] theorem CmdWord.a_ofBytes (op a b : Byte) : CmdWord.a (CmdWord.ofBytes op a b) = a := by
  simp only [CmdWord.a, CmdWord.ofBytes]; ext i hi; simp; grind

@[simp] theorem CmdWord.b_ofBytes (op a b : Byte) : CmdWord.b (CmdWord.ofBytes op a b) = b := by
  simp only [CmdWord.b, CmdWord.ofBytes]; ext i hi; simp; grind

/-- A command word is the one its three bytes make: what the latch (C_OP, C_A, C_B) holds is the word accepted. -/
theorem CmdWord.ofBytes_fields (w : CmdWord) : CmdWord.ofBytes (CmdWord.op w) (CmdWord.a w) (CmdWord.b w) = w := by
  simp only [CmdWord.op, CmdWord.a, CmdWord.b, CmdWord.ofBytes]
  ext i hi
  simp
  grind

@[simp] theorem PortWord.we_ofFields (we : Bool) (p : Port) (d : Byte) : PortWord.we (PortWord.ofFields we p d) = we := by
  show (BitVec.ofBool we ++ p ++ d).getLsbD 24 = we
  rw [BitVec.getLsbD_append, BitVec.getLsbD_append]
  cases we <;> rfl

@[simp] theorem PortWord.port_ofFields (we : Bool) (p : Port) (d : Byte) :
    PortWord.port (PortWord.ofFields we p d) = p := by
  simp only [PortWord.port, PortWord.ofFields]; ext i hi; simp; grind

@[simp] theorem PortWord.data_ofFields (we : Bool) (p : Port) (d : Byte) :
    PortWord.data (PortWord.ofFields we p d) = d := by
  simp only [PortWord.data, PortWord.ofFields]; ext i hi; simp; grind

/-- A port-operation word is the one its three fields make. -/
theorem PortWord.ofFields_fields (w : PortWord) :
    PortWord.ofFields (PortWord.we w) (PortWord.port w) (PortWord.data w) = w := by
  simp only [PortWord.we, PortWord.port, PortWord.data, PortWord.ofFields]
  ext i hi
  simp
  grind

end Sys2Proof
end

