-- ==== Sys2Proof/Laws/Memory.lean ====
section
/-! SUPPORT. The laws of memory: a read after a write, and the canonical form, kept by every operation. -/

namespace Sys2Proof.Machine

/-- A byte written is read back, and every other address reads as before. -/
theorem Memory.lookup_store (m : Memory) (a b : Nat) (v : Byte) :
    Memory.lookup (Memory.store m a v) b = if b = a then some v else Memory.lookup m b := by
  induction m with
  | nil => rfl
  | cons c m ih =>
    obtain ⟨k, w⟩ := c
    by_cases h1 : a < k
    · simp only [Memory.store, h1, if_true, Memory.lookup]
    · by_cases h2 : a = k
      · subst h2
        by_cases hb : b = a <;> simp [Memory.store, Memory.lookup, hb]
      · by_cases hb : b = k
        · subst hb
          simp [Memory.store, h1, h2, Memory.lookup, Ne.symm h2]
        · simp [Memory.store, h1, h2, Memory.lookup, hb, ih]

/-- A memory whose addresses rise, by its first entry: every later address is greater. -/
theorem Memory.rising_cons (k : Nat) (w : Byte) (m : Memory) :
    Memory.rising ((k, w) :: m) = true ↔ Memory.rising m = true ∧ ∀ c ∈ m, k < c.1 := by
  induction m generalizing k w with
  | nil => simp [Memory.rising]
  | cons c m ih =>
    obtain ⟨b, x⟩ := c
    simp only [Memory.rising, Bool.and_eq_true, decide_eq_true_eq, List.mem_cons, forall_eq_or_imp]
    constructor
    · rintro ⟨hb, hm⟩
      exact ⟨hm, hb, fun c hc => Nat.lt_trans hb (((ih b x).mp hm).2 c hc)⟩
    · rintro ⟨hm, hb, -⟩
      exact ⟨hb, hm⟩

/-- An address of the memory after a write is the one written or was there. -/
theorem Memory.mem_store (m : Memory) (a : Nat) (v : Byte) (c : Host.Cell) (h : c ∈ Memory.store m a v) :
    c = (a, v) ∨ c ∈ m := by
  induction m with
  | nil => exact .inl (by simpa [Memory.store] using h)
  | cons d m ih =>
    obtain ⟨k, w⟩ := d
    simp only [Memory.store] at h
    split_ifs at h with h1 h2
    · exact (List.mem_cons.mp h)
    · exact (List.mem_cons.mp h).imp id (List.mem_cons_of_mem _)
    · rcases List.mem_cons.mp h with h | h
      · exact .inr (by simp [h])
      · exact (ih h).imp id (List.mem_cons_of_mem _)

/-- A write keeps the addresses rising. -/
theorem Memory.rising_store (m : Memory) (a : Nat) (v : Byte) (h : Memory.rising m = true) :
    Memory.rising (Memory.store m a v) = true := by
  induction m with
  | nil => rfl
  | cons d m ih =>
    obtain ⟨k, w⟩ := d
    obtain ⟨hm, hk⟩ := (Memory.rising_cons k w m).mp h
    simp only [Memory.store]
    split_ifs with h1 h2
    · refine (Memory.rising_cons a v _).mpr ⟨h, fun c hc => ?_⟩
      rcases List.mem_cons.mp hc with rfl | hc
      · exact h1
      · exact Nat.lt_trans h1 (hk c hc)
    · subst h2
      exact (Memory.rising_cons a v m).mpr ⟨hm, hk⟩
    · refine (Memory.rising_cons k w _).mpr ⟨ih hm, fun c hc => ?_⟩
      rcases Memory.mem_store m a v c hc with rfl | hc
      · exact Nat.lt_of_le_of_ne (Nat.le_of_not_lt h1) (Ne.symm h2)
      · exact hk c hc

/-- A write of an address that exists keeps the canonical form. -/
theorem Memory.wf_store (size : Nat) (m : Memory) (a : Nat) (v : Byte) (ha : a < size)
    (h : Memory.wf size m = true) : Memory.wf size (Memory.store m a v) = true := by
  simp only [Memory.wf, Bool.and_eq_true, List.all_eq_true, decide_eq_true_eq] at h ⊢
  refine ⟨Memory.rising_store m a v h.1, fun c hc => ?_⟩
  rcases Memory.mem_store m a v c hc with rfl | hc
  · exact ha
  · exact h.2 c hc

/-- The empty memory has the canonical form: State.reset's memories do. -/
theorem Memory.wf_nil (size : Nat) : Memory.wf size [] = true := rfl

end Sys2Proof.Machine
end

