-- ==== Sys2Proof/Laws/State.lean ====
section
/-! SUPPORT. For every named update of State one lemma per field, true by rfl, so that no proof unfolds a record
update; the two transactions are given by what they do to the environment. -/

namespace Sys2Proof.Machine

/-- The port operations of TXW on the environment. -/
def Env.writeTransfer (e : Env) (off val : Byte) : Env :=
  ((((e.acceptWrite portStatus byteClr).acceptWrite portCmd off).acceptWrite portSlv slvWrite).acceptWrite
    portData val).acceptWrite portCtrl byteGo

/-- The port writes of TXR on the environment, before the sample. -/
def Env.readRequest (e : Env) (off : Byte) : Env :=
  (((e.acceptWrite portStatus byteClr).acceptWrite portCmd off).acceptWrite portSlv slvRead).acceptWrite
    portCtrl byteGo

/-! portWrite -/

@[simp] theorem State.portWrite_mode (s : State) (p : Port) (v : Byte) : (s.portWrite p v).mode = s.mode := rfl
@[simp] theorem State.portWrite_sh0 (s : State) (p : Port) (v : Byte) : (s.portWrite p v).sh0 = s.sh0 := rfl
@[simp] theorem State.portWrite_sh1 (s : State) (p : Port) (v : Byte) : (s.portWrite p v).sh1 = s.sh1 := rfl
@[simp] theorem State.portWrite_tOff (s : State) (p : Port) (v : Byte) : (s.portWrite p v).tOff = s.tOff := rfl
@[simp] theorem State.portWrite_tVal (s : State) (p : Port) (v : Byte) : (s.portWrite p v).tVal = s.tVal := rfl
@[simp] theorem State.portWrite_tRd (s : State) (p : Port) (v : Byte) : (s.portWrite p v).tRd = s.tRd := rfl
@[simp] theorem State.portWrite_tRes (s : State) (p : Port) (v : Byte) : (s.portWrite p v).tRes = s.tRes := rfl
@[simp] theorem State.portWrite_busy (s : State) (p : Port) (v : Byte) : (s.portWrite p v).busy = s.busy := rfl
@[simp] theorem State.portWrite_cs (s : State) (p : Port) (v : Byte) : (s.portWrite p v).cs = s.cs := rfl
@[simp] theorem State.portWrite_ph (s : State) (p : Port) (v : Byte) : (s.portWrite p v).ph = s.ph := rfl
@[simp] theorem State.portWrite_disp (s : State) (p : Port) (v : Byte) : (s.portWrite p v).disp = s.disp := rfl
@[simp] theorem State.portWrite_pollCnt (s : State) (p : Port) (v : Byte) :
    (s.portWrite p v).pollCnt = s.pollCnt := rfl
@[simp] theorem State.portWrite_pollEn (s : State) (p : Port) (v : Byte) : (s.portWrite p v).pollEn = s.pollEn := rfl
@[simp] theorem State.portWrite_wCnt (s : State) (p : Port) (v : Byte) : (s.portWrite p v).wCnt = s.wCnt := rfl
@[simp] theorem State.portWrite_cOp (s : State) (p : Port) (v : Byte) : (s.portWrite p v).cOp = s.cOp := rfl
@[simp] theorem State.portWrite_cA (s : State) (p : Port) (v : Byte) : (s.portWrite p v).cA = s.cA := rfl
@[simp] theorem State.portWrite_cB (s : State) (p : Port) (v : Byte) : (s.portWrite p v).cB = s.cB := rfl
@[simp] theorem State.portWrite_cSrc (s : State) (p : Port) (v : Byte) : (s.portWrite p v).cSrc = s.cSrc := rfl
@[simp] theorem State.portWrite_rspSt (s : State) (p : Port) (v : Byte) : (s.portWrite p v).rspSt = s.rspSt := rfl
@[simp] theorem State.portWrite_rspD (s : State) (p : Port) (v : Byte) : (s.portWrite p v).rspD = s.rspD := rfl
@[simp] theorem State.portWrite_rspValid (s : State) (p : Port) (v : Byte) :
    (s.portWrite p v).rspValid = s.rspValid := rfl
@[simp] theorem State.portWrite_in0 (s : State) (p : Port) (v : Byte) : (s.portWrite p v).in0 = s.in0 := rfl
@[simp] theorem State.portWrite_in1 (s : State) (p : Port) (v : Byte) : (s.portWrite p v).in1 = s.in1 := rfl
@[simp] theorem State.portWrite_trace (s : State) (p : Port) (v : Byte) :
    (s.portWrite p v).trace = s.trace ++ [.pw p v] := rfl
@[simp] theorem State.portWrite_responses (s : State) (p : Port) (v : Byte) :
    (s.portWrite p v).responses = s.responses := rfl
@[simp] theorem State.portWrite_en (s : State) (p : Port) (v : Byte) : (s.portWrite p v).en = s.en := rfl
@[simp] theorem State.portWrite_load (s : State) (p : Port) (v : Byte) : (s.portWrite p v).load = s.load := rfl
@[simp] theorem State.portWrite_released (s : State) (p : Port) (v : Byte) :
    (s.portWrite p v).released = s.released := rfl
@[simp] theorem State.portWrite_cmds (s : State) (p : Port) (v : Byte) : (s.portWrite p v).cmds = s.cmds := rfl
@[simp] theorem State.portWrite_inputs (s : State) (p : Port) (v : Byte) : (s.portWrite p v).inputs = s.inputs := rfl
@[simp] theorem State.portWrite_env (s : State) (p : Port) (v : Byte) :
    (s.portWrite p v).env = s.env.acceptWrite p v := rfl
@[simp] theorem State.portWrite_cfg (s : State) (p : Port) (v : Byte) : (s.portWrite p v).cfg = s.cfg := rfl
@[simp] theorem State.portWrite_grain (s : State) (p : Port) (v : Byte) : (s.portWrite p v).grain = s.grain := rfl

/-! portRead -/

@[simp] theorem State.portRead_mode (s : State) (p : Port) : (s.portRead p).mode = s.mode := rfl
@[simp] theorem State.portRead_sh0 (s : State) (p : Port) : (s.portRead p).sh0 = s.sh0 := rfl
@[simp] theorem State.portRead_sh1 (s : State) (p : Port) : (s.portRead p).sh1 = s.sh1 := rfl
@[simp] theorem State.portRead_tOff (s : State) (p : Port) : (s.portRead p).tOff = s.tOff := rfl
@[simp] theorem State.portRead_tVal (s : State) (p : Port) : (s.portRead p).tVal = s.tVal := rfl
@[simp] theorem State.portRead_tRd (s : State) (p : Port) : (s.portRead p).tRd = s.tRd := rfl
@[simp] theorem State.portRead_tRes (s : State) (p : Port) : (s.portRead p).tRes = s.env.readByte p := rfl
@[simp] theorem State.portRead_busy (s : State) (p : Port) : (s.portRead p).busy = s.busy := rfl
@[simp] theorem State.portRead_cs (s : State) (p : Port) : (s.portRead p).cs = s.cs := rfl
@[simp] theorem State.portRead_ph (s : State) (p : Port) : (s.portRead p).ph = s.ph := rfl
@[simp] theorem State.portRead_disp (s : State) (p : Port) : (s.portRead p).disp = s.disp := rfl
@[simp] theorem State.portRead_pollCnt (s : State) (p : Port) : (s.portRead p).pollCnt = s.pollCnt := rfl
@[simp] theorem State.portRead_pollEn (s : State) (p : Port) : (s.portRead p).pollEn = s.pollEn := rfl
@[simp] theorem State.portRead_wCnt (s : State) (p : Port) : (s.portRead p).wCnt = s.wCnt := rfl
@[simp] theorem State.portRead_cOp (s : State) (p : Port) : (s.portRead p).cOp = s.cOp := rfl
@[simp] theorem State.portRead_cA (s : State) (p : Port) : (s.portRead p).cA = s.cA := rfl
@[simp] theorem State.portRead_cB (s : State) (p : Port) : (s.portRead p).cB = s.cB := rfl
@[simp] theorem State.portRead_cSrc (s : State) (p : Port) : (s.portRead p).cSrc = s.cSrc := rfl
@[simp] theorem State.portRead_rspSt (s : State) (p : Port) : (s.portRead p).rspSt = s.rspSt := rfl
@[simp] theorem State.portRead_rspD (s : State) (p : Port) : (s.portRead p).rspD = s.rspD := rfl
@[simp] theorem State.portRead_rspValid (s : State) (p : Port) : (s.portRead p).rspValid = s.rspValid := rfl
@[simp] theorem State.portRead_in0 (s : State) (p : Port) : (s.portRead p).in0 = s.in0 := rfl
@[simp] theorem State.portRead_in1 (s : State) (p : Port) : (s.portRead p).in1 = s.in1 := rfl
@[simp] theorem State.portRead_trace (s : State) (p : Port) :
    (s.portRead p).trace = s.trace ++ [.pr p (s.env.readByte p)] := rfl
@[simp] theorem State.portRead_responses (s : State) (p : Port) : (s.portRead p).responses = s.responses := rfl
@[simp] theorem State.portRead_en (s : State) (p : Port) : (s.portRead p).en = s.en := rfl
@[simp] theorem State.portRead_load (s : State) (p : Port) : (s.portRead p).load = s.load := rfl
@[simp] theorem State.portRead_released (s : State) (p : Port) : (s.portRead p).released = s.released := rfl
@[simp] theorem State.portRead_cmds (s : State) (p : Port) : (s.portRead p).cmds = s.cmds := rfl
@[simp] theorem State.portRead_inputs (s : State) (p : Port) : (s.portRead p).inputs = s.inputs := rfl
@[simp] theorem State.portRead_env (s : State) (p : Port) : (s.portRead p).env = s.env.afterRead p := rfl
@[simp] theorem State.portRead_cfg (s : State) (p : Port) : (s.portRead p).cfg = s.cfg := rfl
@[simp] theorem State.portRead_grain (s : State) (p : Port) : (s.portRead p).grain = s.grain := rfl

/-! toPhase -/

@[simp] theorem State.toPhase_mode (s : State) (ph : Phase) : (s.toPhase ph).mode = s.mode := rfl
@[simp] theorem State.toPhase_sh0 (s : State) (ph : Phase) : (s.toPhase ph).sh0 = s.sh0 := rfl
@[simp] theorem State.toPhase_sh1 (s : State) (ph : Phase) : (s.toPhase ph).sh1 = s.sh1 := rfl
@[simp] theorem State.toPhase_tOff (s : State) (ph : Phase) : (s.toPhase ph).tOff = s.tOff := rfl
@[simp] theorem State.toPhase_tVal (s : State) (ph : Phase) : (s.toPhase ph).tVal = s.tVal := rfl
@[simp] theorem State.toPhase_tRd (s : State) (ph : Phase) : (s.toPhase ph).tRd = s.tRd := rfl
@[simp] theorem State.toPhase_tRes (s : State) (ph : Phase) : (s.toPhase ph).tRes = s.tRes := rfl
@[simp] theorem State.toPhase_busy (s : State) (ph : Phase) : (s.toPhase ph).busy = s.busy := rfl
@[simp] theorem State.toPhase_cs (s : State) (ph : Phase) : (s.toPhase ph).cs = s.cs := rfl
@[simp] theorem State.toPhase_ph (s : State) (ph : Phase) : (s.toPhase ph).ph = ph := rfl
@[simp] theorem State.toPhase_disp (s : State) (ph : Phase) : (s.toPhase ph).disp = s.disp := rfl
@[simp] theorem State.toPhase_pollCnt (s : State) (ph : Phase) : (s.toPhase ph).pollCnt = s.pollCnt := rfl
@[simp] theorem State.toPhase_pollEn (s : State) (ph : Phase) : (s.toPhase ph).pollEn = s.pollEn := rfl
@[simp] theorem State.toPhase_wCnt (s : State) (ph : Phase) : (s.toPhase ph).wCnt = s.wCnt := rfl
@[simp] theorem State.toPhase_cOp (s : State) (ph : Phase) : (s.toPhase ph).cOp = s.cOp := rfl
@[simp] theorem State.toPhase_cA (s : State) (ph : Phase) : (s.toPhase ph).cA = s.cA := rfl
@[simp] theorem State.toPhase_cB (s : State) (ph : Phase) : (s.toPhase ph).cB = s.cB := rfl
@[simp] theorem State.toPhase_cSrc (s : State) (ph : Phase) : (s.toPhase ph).cSrc = s.cSrc := rfl
@[simp] theorem State.toPhase_rspSt (s : State) (ph : Phase) : (s.toPhase ph).rspSt = s.rspSt := rfl
@[simp] theorem State.toPhase_rspD (s : State) (ph : Phase) : (s.toPhase ph).rspD = s.rspD := rfl
@[simp] theorem State.toPhase_rspValid (s : State) (ph : Phase) : (s.toPhase ph).rspValid = s.rspValid := rfl
@[simp] theorem State.toPhase_in0 (s : State) (ph : Phase) : (s.toPhase ph).in0 = s.in0 := rfl
@[simp] theorem State.toPhase_in1 (s : State) (ph : Phase) : (s.toPhase ph).in1 = s.in1 := rfl
@[simp] theorem State.toPhase_trace (s : State) (ph : Phase) : (s.toPhase ph).trace = s.trace := rfl
@[simp] theorem State.toPhase_responses (s : State) (ph : Phase) : (s.toPhase ph).responses = s.responses := rfl
@[simp] theorem State.toPhase_en (s : State) (ph : Phase) : (s.toPhase ph).en = s.en := rfl
@[simp] theorem State.toPhase_load (s : State) (ph : Phase) : (s.toPhase ph).load = s.load := rfl
@[simp] theorem State.toPhase_released (s : State) (ph : Phase) : (s.toPhase ph).released = s.released := rfl
@[simp] theorem State.toPhase_cmds (s : State) (ph : Phase) : (s.toPhase ph).cmds = s.cmds := rfl
@[simp] theorem State.toPhase_inputs (s : State) (ph : Phase) : (s.toPhase ph).inputs = s.inputs := rfl
@[simp] theorem State.toPhase_env (s : State) (ph : Phase) : (s.toPhase ph).env = s.env := rfl
@[simp] theorem State.toPhase_cfg (s : State) (ph : Phase) : (s.toPhase ph).cfg = s.cfg := rfl
@[simp] theorem State.toPhase_grain (s : State) (ph : Phase) : (s.toPhase ph).grain = s.grain := rfl

/-! endItem -/

@[simp] theorem State.endItem_mode (s : State) : s.endItem.mode = s.mode := rfl
@[simp] theorem State.endItem_sh0 (s : State) : s.endItem.sh0 = s.sh0 := rfl
@[simp] theorem State.endItem_sh1 (s : State) : s.endItem.sh1 = s.sh1 := rfl
@[simp] theorem State.endItem_tOff (s : State) : s.endItem.tOff = s.tOff := rfl
@[simp] theorem State.endItem_tVal (s : State) : s.endItem.tVal = s.tVal := rfl
@[simp] theorem State.endItem_tRd (s : State) : s.endItem.tRd = s.tRd := rfl
@[simp] theorem State.endItem_tRes (s : State) : s.endItem.tRes = s.tRes := rfl
@[simp] theorem State.endItem_busy (s : State) : s.endItem.busy = s.busy := rfl
@[simp] theorem State.endItem_cs (s : State) : s.endItem.cs = s.cs + 1 := rfl
@[simp] theorem State.endItem_ph (s : State) : s.endItem.ph = .sClr := rfl
@[simp] theorem State.endItem_disp (s : State) : s.endItem.disp = s.disp := rfl
@[simp] theorem State.endItem_pollCnt (s : State) : s.endItem.pollCnt = s.pollCnt := rfl
@[simp] theorem State.endItem_pollEn (s : State) : s.endItem.pollEn = s.pollEn := rfl
@[simp] theorem State.endItem_wCnt (s : State) : s.endItem.wCnt = s.wCnt := rfl
@[simp] theorem State.endItem_cOp (s : State) : s.endItem.cOp = s.cOp := rfl
@[simp] theorem State.endItem_cA (s : State) : s.endItem.cA = s.cA := rfl
@[simp] theorem State.endItem_cB (s : State) : s.endItem.cB = s.cB := rfl
@[simp] theorem State.endItem_cSrc (s : State) : s.endItem.cSrc = s.cSrc := rfl
@[simp] theorem State.endItem_rspSt (s : State) : s.endItem.rspSt = s.rspSt := rfl
@[simp] theorem State.endItem_rspD (s : State) : s.endItem.rspD = s.rspD := rfl
@[simp] theorem State.endItem_rspValid (s : State) : s.endItem.rspValid = s.rspValid := rfl
@[simp] theorem State.endItem_in0 (s : State) : s.endItem.in0 = s.in0 := rfl
@[simp] theorem State.endItem_in1 (s : State) : s.endItem.in1 = s.in1 := rfl
@[simp] theorem State.endItem_trace (s : State) : s.endItem.trace = s.trace := rfl
@[simp] theorem State.endItem_responses (s : State) : s.endItem.responses = s.responses := rfl
@[simp] theorem State.endItem_en (s : State) : s.endItem.en = s.en := rfl
@[simp] theorem State.endItem_load (s : State) : s.endItem.load = s.load := rfl
@[simp] theorem State.endItem_released (s : State) : s.endItem.released = s.released := rfl
@[simp] theorem State.endItem_cmds (s : State) : s.endItem.cmds = s.cmds := rfl
@[simp] theorem State.endItem_inputs (s : State) : s.endItem.inputs = s.inputs := rfl
@[simp] theorem State.endItem_env (s : State) : s.endItem.env = s.env := rfl
@[simp] theorem State.endItem_cfg (s : State) : s.endItem.cfg = s.cfg := rfl
@[simp] theorem State.endItem_grain (s : State) : s.endItem.grain = s.grain := rfl

/-! goIdle -/

@[simp] theorem State.goIdle_mode (s : State) : s.goIdle.mode = s.mode := rfl
@[simp] theorem State.goIdle_sh0 (s : State) : s.goIdle.sh0 = s.sh0 := rfl
@[simp] theorem State.goIdle_sh1 (s : State) : s.goIdle.sh1 = s.sh1 := rfl
@[simp] theorem State.goIdle_tOff (s : State) : s.goIdle.tOff = s.tOff := rfl
@[simp] theorem State.goIdle_tVal (s : State) : s.goIdle.tVal = s.tVal := rfl
@[simp] theorem State.goIdle_tRd (s : State) : s.goIdle.tRd = s.tRd := rfl
@[simp] theorem State.goIdle_tRes (s : State) : s.goIdle.tRes = s.tRes := rfl
@[simp] theorem State.goIdle_busy (s : State) : s.goIdle.busy = false := rfl
@[simp] theorem State.goIdle_cs (s : State) : s.goIdle.cs = 0 := rfl
@[simp] theorem State.goIdle_ph (s : State) : s.goIdle.ph = .sClr := rfl
@[simp] theorem State.goIdle_disp (s : State) : s.goIdle.disp = s.disp := rfl
@[simp] theorem State.goIdle_pollCnt (s : State) : s.goIdle.pollCnt = s.pollCnt := rfl
@[simp] theorem State.goIdle_pollEn (s : State) : s.goIdle.pollEn = s.pollEn := rfl
@[simp] theorem State.goIdle_wCnt (s : State) : s.goIdle.wCnt = s.wCnt := rfl
@[simp] theorem State.goIdle_cOp (s : State) : s.goIdle.cOp = s.cOp := rfl
@[simp] theorem State.goIdle_cA (s : State) : s.goIdle.cA = s.cA := rfl
@[simp] theorem State.goIdle_cB (s : State) : s.goIdle.cB = s.cB := rfl
@[simp] theorem State.goIdle_cSrc (s : State) : s.goIdle.cSrc = s.cSrc := rfl
@[simp] theorem State.goIdle_rspSt (s : State) : s.goIdle.rspSt = s.rspSt := rfl
@[simp] theorem State.goIdle_rspD (s : State) : s.goIdle.rspD = s.rspD := rfl
@[simp] theorem State.goIdle_rspValid (s : State) : s.goIdle.rspValid = s.rspValid := rfl
@[simp] theorem State.goIdle_in0 (s : State) : s.goIdle.in0 = s.in0 := rfl
@[simp] theorem State.goIdle_in1 (s : State) : s.goIdle.in1 = s.in1 := rfl
@[simp] theorem State.goIdle_trace (s : State) : s.goIdle.trace = s.trace := rfl
@[simp] theorem State.goIdle_responses (s : State) : s.goIdle.responses = s.responses := rfl
@[simp] theorem State.goIdle_en (s : State) : s.goIdle.en = s.en := rfl
@[simp] theorem State.goIdle_load (s : State) : s.goIdle.load = s.load := rfl
@[simp] theorem State.goIdle_released (s : State) : s.goIdle.released = s.released := rfl
@[simp] theorem State.goIdle_cmds (s : State) : s.goIdle.cmds = s.cmds := rfl
@[simp] theorem State.goIdle_inputs (s : State) : s.goIdle.inputs = s.inputs := rfl
@[simp] theorem State.goIdle_env (s : State) : s.goIdle.env = s.env := rfl
@[simp] theorem State.goIdle_cfg (s : State) : s.goIdle.cfg = s.cfg := rfl
@[simp] theorem State.goIdle_grain (s : State) : s.goIdle.grain = s.grain := rfl

/-! respond -/

@[simp] theorem State.respond_mode (s : State) (st : RspStatus) (d : Byte) : (s.respond st d).mode = s.mode := rfl
@[simp] theorem State.respond_sh0 (s : State) (st : RspStatus) (d : Byte) : (s.respond st d).sh0 = s.sh0 := rfl
@[simp] theorem State.respond_sh1 (s : State) (st : RspStatus) (d : Byte) : (s.respond st d).sh1 = s.sh1 := rfl
@[simp] theorem State.respond_tOff (s : State) (st : RspStatus) (d : Byte) : (s.respond st d).tOff = s.tOff := rfl
@[simp] theorem State.respond_tVal (s : State) (st : RspStatus) (d : Byte) : (s.respond st d).tVal = s.tVal := rfl
@[simp] theorem State.respond_tRd (s : State) (st : RspStatus) (d : Byte) : (s.respond st d).tRd = s.tRd := rfl
@[simp] theorem State.respond_tRes (s : State) (st : RspStatus) (d : Byte) : (s.respond st d).tRes = s.tRes := rfl
@[simp] theorem State.respond_busy (s : State) (st : RspStatus) (d : Byte) : (s.respond st d).busy = false := rfl
@[simp] theorem State.respond_cs (s : State) (st : RspStatus) (d : Byte) : (s.respond st d).cs = 0 := rfl
@[simp] theorem State.respond_ph (s : State) (st : RspStatus) (d : Byte) : (s.respond st d).ph = .sClr := rfl
@[simp] theorem State.respond_disp (s : State) (st : RspStatus) (d : Byte) : (s.respond st d).disp = s.disp := rfl
@[simp] theorem State.respond_pollCnt (s : State) (st : RspStatus) (d : Byte) :
    (s.respond st d).pollCnt = s.pollCnt := rfl
@[simp] theorem State.respond_pollEn (s : State) (st : RspStatus) (d : Byte) :
    (s.respond st d).pollEn = s.pollEn := rfl
@[simp] theorem State.respond_wCnt (s : State) (st : RspStatus) (d : Byte) : (s.respond st d).wCnt = s.wCnt := rfl
@[simp] theorem State.respond_cOp (s : State) (st : RspStatus) (d : Byte) : (s.respond st d).cOp = s.cOp := rfl
@[simp] theorem State.respond_cA (s : State) (st : RspStatus) (d : Byte) : (s.respond st d).cA = s.cA := rfl
@[simp] theorem State.respond_cB (s : State) (st : RspStatus) (d : Byte) : (s.respond st d).cB = s.cB := rfl
@[simp] theorem State.respond_cSrc (s : State) (st : RspStatus) (d : Byte) : (s.respond st d).cSrc = s.cSrc := rfl
@[simp] theorem State.respond_rspSt (s : State) (st : RspStatus) (d : Byte) : (s.respond st d).rspSt = st := rfl
@[simp] theorem State.respond_rspD (s : State) (st : RspStatus) (d : Byte) : (s.respond st d).rspD = d := rfl
@[simp] theorem State.respond_rspValid (s : State) (st : RspStatus) (d : Byte) :
    (s.respond st d).rspValid = true := rfl
@[simp] theorem State.respond_in0 (s : State) (st : RspStatus) (d : Byte) : (s.respond st d).in0 = s.in0 := rfl
@[simp] theorem State.respond_in1 (s : State) (st : RspStatus) (d : Byte) : (s.respond st d).in1 = s.in1 := rfl
@[simp] theorem State.respond_trace (s : State) (st : RspStatus) (d : Byte) : (s.respond st d).trace = s.trace := rfl
@[simp] theorem State.respond_responses (s : State) (st : RspStatus) (d : Byte) :
    (s.respond st d).responses = s.responses ++ [⟨st, d⟩] := rfl
@[simp] theorem State.respond_en (s : State) (st : RspStatus) (d : Byte) : (s.respond st d).en = s.en := rfl
@[simp] theorem State.respond_load (s : State) (st : RspStatus) (d : Byte) : (s.respond st d).load = s.load := rfl
@[simp] theorem State.respond_released (s : State) (st : RspStatus) (d : Byte) :
    (s.respond st d).released = s.released := rfl
@[simp] theorem State.respond_cmds (s : State) (st : RspStatus) (d : Byte) : (s.respond st d).cmds = s.cmds := rfl
@[simp] theorem State.respond_inputs (s : State) (st : RspStatus) (d : Byte) :
    (s.respond st d).inputs = s.inputs := rfl
@[simp] theorem State.respond_env (s : State) (st : RspStatus) (d : Byte) : (s.respond st d).env = s.env := rfl
@[simp] theorem State.respond_cfg (s : State) (st : RspStatus) (d : Byte) : (s.respond st d).cfg = s.cfg := rfl
@[simp] theorem State.respond_grain (s : State) (st : RspStatus) (d : Byte) : (s.respond st d).grain = s.grain := rfl

/-! loadWrite -/

@[simp] theorem State.loadWrite_mode (s : State) (off val : Byte) : (s.loadWrite off val).mode = s.mode := rfl
@[simp] theorem State.loadWrite_sh0 (s : State) (off val : Byte) : (s.loadWrite off val).sh0 = s.sh0 := rfl
@[simp] theorem State.loadWrite_sh1 (s : State) (off val : Byte) : (s.loadWrite off val).sh1 = s.sh1 := rfl
@[simp] theorem State.loadWrite_tOff (s : State) (off val : Byte) : (s.loadWrite off val).tOff = off := rfl
@[simp] theorem State.loadWrite_tVal (s : State) (off val : Byte) : (s.loadWrite off val).tVal = val := rfl
@[simp] theorem State.loadWrite_tRd (s : State) (off val : Byte) : (s.loadWrite off val).tRd = false := rfl
@[simp] theorem State.loadWrite_tRes (s : State) (off val : Byte) : (s.loadWrite off val).tRes = s.tRes := rfl
@[simp] theorem State.loadWrite_busy (s : State) (off val : Byte) : (s.loadWrite off val).busy = s.busy := rfl
@[simp] theorem State.loadWrite_cs (s : State) (off val : Byte) : (s.loadWrite off val).cs = s.cs := rfl
@[simp] theorem State.loadWrite_ph (s : State) (off val : Byte) : (s.loadWrite off val).ph = s.ph := rfl
@[simp] theorem State.loadWrite_disp (s : State) (off val : Byte) : (s.loadWrite off val).disp = s.disp := rfl
@[simp] theorem State.loadWrite_pollCnt (s : State) (off val : Byte) :
    (s.loadWrite off val).pollCnt = s.pollCnt := rfl
@[simp] theorem State.loadWrite_pollEn (s : State) (off val : Byte) : (s.loadWrite off val).pollEn = s.pollEn := rfl
@[simp] theorem State.loadWrite_wCnt (s : State) (off val : Byte) : (s.loadWrite off val).wCnt = s.wCnt := rfl
@[simp] theorem State.loadWrite_cOp (s : State) (off val : Byte) : (s.loadWrite off val).cOp = s.cOp := rfl
@[simp] theorem State.loadWrite_cA (s : State) (off val : Byte) : (s.loadWrite off val).cA = s.cA := rfl
@[simp] theorem State.loadWrite_cB (s : State) (off val : Byte) : (s.loadWrite off val).cB = s.cB := rfl
@[simp] theorem State.loadWrite_cSrc (s : State) (off val : Byte) : (s.loadWrite off val).cSrc = s.cSrc := rfl
@[simp] theorem State.loadWrite_rspSt (s : State) (off val : Byte) : (s.loadWrite off val).rspSt = s.rspSt := rfl
@[simp] theorem State.loadWrite_rspD (s : State) (off val : Byte) : (s.loadWrite off val).rspD = s.rspD := rfl
@[simp] theorem State.loadWrite_rspValid (s : State) (off val : Byte) :
    (s.loadWrite off val).rspValid = s.rspValid := rfl
@[simp] theorem State.loadWrite_in0 (s : State) (off val : Byte) : (s.loadWrite off val).in0 = s.in0 := rfl
@[simp] theorem State.loadWrite_in1 (s : State) (off val : Byte) : (s.loadWrite off val).in1 = s.in1 := rfl
@[simp] theorem State.loadWrite_trace (s : State) (off val : Byte) : (s.loadWrite off val).trace = s.trace := rfl
@[simp] theorem State.loadWrite_responses (s : State) (off val : Byte) :
    (s.loadWrite off val).responses = s.responses := rfl
@[simp] theorem State.loadWrite_en (s : State) (off val : Byte) : (s.loadWrite off val).en = s.en := rfl
@[simp] theorem State.loadWrite_load (s : State) (off val : Byte) : (s.loadWrite off val).load = s.load := rfl
@[simp] theorem State.loadWrite_released (s : State) (off val : Byte) :
    (s.loadWrite off val).released = s.released := rfl
@[simp] theorem State.loadWrite_cmds (s : State) (off val : Byte) : (s.loadWrite off val).cmds = s.cmds := rfl
@[simp] theorem State.loadWrite_inputs (s : State) (off val : Byte) : (s.loadWrite off val).inputs = s.inputs := rfl
@[simp] theorem State.loadWrite_env (s : State) (off val : Byte) : (s.loadWrite off val).env = s.env := rfl
@[simp] theorem State.loadWrite_cfg (s : State) (off val : Byte) : (s.loadWrite off val).cfg = s.cfg := rfl
@[simp] theorem State.loadWrite_grain (s : State) (off val : Byte) : (s.loadWrite off val).grain = s.grain := rfl

/-! loadRead -/

@[simp] theorem State.loadRead_mode (s : State) (off : Byte) : (s.loadRead off).mode = s.mode := rfl
@[simp] theorem State.loadRead_sh0 (s : State) (off : Byte) : (s.loadRead off).sh0 = s.sh0 := rfl
@[simp] theorem State.loadRead_sh1 (s : State) (off : Byte) : (s.loadRead off).sh1 = s.sh1 := rfl
@[simp] theorem State.loadRead_tOff (s : State) (off : Byte) : (s.loadRead off).tOff = off := rfl
@[simp] theorem State.loadRead_tVal (s : State) (off : Byte) : (s.loadRead off).tVal = s.tVal := rfl
@[simp] theorem State.loadRead_tRd (s : State) (off : Byte) : (s.loadRead off).tRd = true := rfl
@[simp] theorem State.loadRead_tRes (s : State) (off : Byte) : (s.loadRead off).tRes = s.tRes := rfl
@[simp] theorem State.loadRead_busy (s : State) (off : Byte) : (s.loadRead off).busy = s.busy := rfl
@[simp] theorem State.loadRead_cs (s : State) (off : Byte) : (s.loadRead off).cs = s.cs := rfl
@[simp] theorem State.loadRead_ph (s : State) (off : Byte) : (s.loadRead off).ph = s.ph := rfl
@[simp] theorem State.loadRead_disp (s : State) (off : Byte) : (s.loadRead off).disp = s.disp := rfl
@[simp] theorem State.loadRead_pollCnt (s : State) (off : Byte) : (s.loadRead off).pollCnt = s.pollCnt := rfl
@[simp] theorem State.loadRead_pollEn (s : State) (off : Byte) : (s.loadRead off).pollEn = s.pollEn := rfl
@[simp] theorem State.loadRead_wCnt (s : State) (off : Byte) : (s.loadRead off).wCnt = s.wCnt := rfl
@[simp] theorem State.loadRead_cOp (s : State) (off : Byte) : (s.loadRead off).cOp = s.cOp := rfl
@[simp] theorem State.loadRead_cA (s : State) (off : Byte) : (s.loadRead off).cA = s.cA := rfl
@[simp] theorem State.loadRead_cB (s : State) (off : Byte) : (s.loadRead off).cB = s.cB := rfl
@[simp] theorem State.loadRead_cSrc (s : State) (off : Byte) : (s.loadRead off).cSrc = s.cSrc := rfl
@[simp] theorem State.loadRead_rspSt (s : State) (off : Byte) : (s.loadRead off).rspSt = s.rspSt := rfl
@[simp] theorem State.loadRead_rspD (s : State) (off : Byte) : (s.loadRead off).rspD = s.rspD := rfl
@[simp] theorem State.loadRead_rspValid (s : State) (off : Byte) : (s.loadRead off).rspValid = s.rspValid := rfl
@[simp] theorem State.loadRead_in0 (s : State) (off : Byte) : (s.loadRead off).in0 = s.in0 := rfl
@[simp] theorem State.loadRead_in1 (s : State) (off : Byte) : (s.loadRead off).in1 = s.in1 := rfl
@[simp] theorem State.loadRead_trace (s : State) (off : Byte) : (s.loadRead off).trace = s.trace := rfl
@[simp] theorem State.loadRead_responses (s : State) (off : Byte) : (s.loadRead off).responses = s.responses := rfl
@[simp] theorem State.loadRead_en (s : State) (off : Byte) : (s.loadRead off).en = s.en := rfl
@[simp] theorem State.loadRead_load (s : State) (off : Byte) : (s.loadRead off).load = s.load := rfl
@[simp] theorem State.loadRead_released (s : State) (off : Byte) : (s.loadRead off).released = s.released := rfl
@[simp] theorem State.loadRead_cmds (s : State) (off : Byte) : (s.loadRead off).cmds = s.cmds := rfl
@[simp] theorem State.loadRead_inputs (s : State) (off : Byte) : (s.loadRead off).inputs = s.inputs := rfl
@[simp] theorem State.loadRead_env (s : State) (off : Byte) : (s.loadRead off).env = s.env := rfl
@[simp] theorem State.loadRead_cfg (s : State) (off : Byte) : (s.loadRead off).cfg = s.cfg := rfl
@[simp] theorem State.loadRead_grain (s : State) (off : Byte) : (s.loadRead off).grain = s.grain := rfl

/-! setSh -/

@[simp] theorem State.setSh_mode (s : State) (r : RegSet) (v : Byte) :
    (s.setSh r v).mode = s.mode := by cases r <;> rfl
@[simp] theorem State.setSh_tOff (s : State) (r : RegSet) (v : Byte) :
    (s.setSh r v).tOff = s.tOff := by cases r <;> rfl
@[simp] theorem State.setSh_tVal (s : State) (r : RegSet) (v : Byte) :
    (s.setSh r v).tVal = s.tVal := by cases r <;> rfl
@[simp] theorem State.setSh_tRd (s : State) (r : RegSet) (v : Byte) : (s.setSh r v).tRd = s.tRd := by cases r <;> rfl
@[simp] theorem State.setSh_tRes (s : State) (r : RegSet) (v : Byte) :
    (s.setSh r v).tRes = s.tRes := by cases r <;> rfl
@[simp] theorem State.setSh_busy (s : State) (r : RegSet) (v : Byte) :
    (s.setSh r v).busy = s.busy := by cases r <;> rfl
@[simp] theorem State.setSh_cs (s : State) (r : RegSet) (v : Byte) : (s.setSh r v).cs = s.cs := by cases r <;> rfl
@[simp] theorem State.setSh_ph (s : State) (r : RegSet) (v : Byte) : (s.setSh r v).ph = s.ph := by cases r <;> rfl
@[simp] theorem State.setSh_disp (s : State) (r : RegSet) (v : Byte) :
    (s.setSh r v).disp = s.disp := by cases r <;> rfl
@[simp] theorem State.setSh_pollCnt (s : State) (r : RegSet) (v : Byte) :
    (s.setSh r v).pollCnt = s.pollCnt := by cases r <;> rfl
@[simp] theorem State.setSh_pollEn (s : State) (r : RegSet) (v : Byte) :
    (s.setSh r v).pollEn = s.pollEn := by cases r <;> rfl
@[simp] theorem State.setSh_wCnt (s : State) (r : RegSet) (v : Byte) :
    (s.setSh r v).wCnt = s.wCnt := by cases r <;> rfl
@[simp] theorem State.setSh_cOp (s : State) (r : RegSet) (v : Byte) : (s.setSh r v).cOp = s.cOp := by cases r <;> rfl
@[simp] theorem State.setSh_cA (s : State) (r : RegSet) (v : Byte) : (s.setSh r v).cA = s.cA := by cases r <;> rfl
@[simp] theorem State.setSh_cB (s : State) (r : RegSet) (v : Byte) : (s.setSh r v).cB = s.cB := by cases r <;> rfl
@[simp] theorem State.setSh_cSrc (s : State) (r : RegSet) (v : Byte) :
    (s.setSh r v).cSrc = s.cSrc := by cases r <;> rfl
@[simp] theorem State.setSh_rspSt (s : State) (r : RegSet) (v : Byte) :
    (s.setSh r v).rspSt = s.rspSt := by cases r <;> rfl
@[simp] theorem State.setSh_rspD (s : State) (r : RegSet) (v : Byte) :
    (s.setSh r v).rspD = s.rspD := by cases r <;> rfl
@[simp] theorem State.setSh_rspValid (s : State) (r : RegSet) (v : Byte) :
    (s.setSh r v).rspValid = s.rspValid := by cases r <;> rfl
@[simp] theorem State.setSh_in0 (s : State) (r : RegSet) (v : Byte) : (s.setSh r v).in0 = s.in0 := by cases r <;> rfl
@[simp] theorem State.setSh_in1 (s : State) (r : RegSet) (v : Byte) : (s.setSh r v).in1 = s.in1 := by cases r <;> rfl
@[simp] theorem State.setSh_trace (s : State) (r : RegSet) (v : Byte) :
    (s.setSh r v).trace = s.trace := by cases r <;> rfl
@[simp] theorem State.setSh_responses (s : State) (r : RegSet) (v : Byte) :
    (s.setSh r v).responses = s.responses := by cases r <;> rfl
@[simp] theorem State.setSh_en (s : State) (r : RegSet) (v : Byte) : (s.setSh r v).en = s.en := by cases r <;> rfl
@[simp] theorem State.setSh_load (s : State) (r : RegSet) (v : Byte) :
    (s.setSh r v).load = s.load := by cases r <;> rfl
@[simp] theorem State.setSh_released (s : State) (r : RegSet) (v : Byte) :
    (s.setSh r v).released = s.released := by cases r <;> rfl
@[simp] theorem State.setSh_cmds (s : State) (r : RegSet) (v : Byte) :
    (s.setSh r v).cmds = s.cmds := by cases r <;> rfl
@[simp] theorem State.setSh_inputs (s : State) (r : RegSet) (v : Byte) :
    (s.setSh r v).inputs = s.inputs := by cases r <;> rfl
@[simp] theorem State.setSh_env (s : State) (r : RegSet) (v : Byte) : (s.setSh r v).env = s.env := by cases r <;> rfl
@[simp] theorem State.setSh_cfg (s : State) (r : RegSet) (v : Byte) : (s.setSh r v).cfg = s.cfg := by cases r <;> rfl
@[simp] theorem State.setSh_grain (s : State) (r : RegSet) (v : Byte) :
    (s.setSh r v).grain = s.grain := by cases r <;> rfl

/-! keepSample -/

@[simp] theorem State.keepSample_mode (s : State) (r : RegSet) : (s.keepSample r).mode = s.mode := by cases r <;> rfl
@[simp] theorem State.keepSample_sh0 (s : State) (r : RegSet) : (s.keepSample r).sh0 = s.sh0 := by cases r <;> rfl
@[simp] theorem State.keepSample_sh1 (s : State) (r : RegSet) : (s.keepSample r).sh1 = s.sh1 := by cases r <;> rfl
@[simp] theorem State.keepSample_tOff (s : State) (r : RegSet) : (s.keepSample r).tOff = s.tOff := by cases r <;> rfl
@[simp] theorem State.keepSample_tVal (s : State) (r : RegSet) : (s.keepSample r).tVal = s.tVal := by cases r <;> rfl
@[simp] theorem State.keepSample_tRd (s : State) (r : RegSet) : (s.keepSample r).tRd = s.tRd := by cases r <;> rfl
@[simp] theorem State.keepSample_tRes (s : State) (r : RegSet) : (s.keepSample r).tRes = s.tRes := by cases r <;> rfl
@[simp] theorem State.keepSample_busy (s : State) (r : RegSet) : (s.keepSample r).busy = s.busy := by cases r <;> rfl
@[simp] theorem State.keepSample_cs (s : State) (r : RegSet) : (s.keepSample r).cs = s.cs := by cases r <;> rfl
@[simp] theorem State.keepSample_ph (s : State) (r : RegSet) : (s.keepSample r).ph = s.ph := by cases r <;> rfl
@[simp] theorem State.keepSample_disp (s : State) (r : RegSet) : (s.keepSample r).disp = s.disp := by cases r <;> rfl
@[simp] theorem State.keepSample_pollCnt (s : State) (r : RegSet) :
    (s.keepSample r).pollCnt = s.pollCnt := by cases r <;> rfl
@[simp] theorem State.keepSample_pollEn (s : State) (r : RegSet) :
    (s.keepSample r).pollEn = s.pollEn := by cases r <;> rfl
@[simp] theorem State.keepSample_wCnt (s : State) (r : RegSet) : (s.keepSample r).wCnt = s.wCnt := by cases r <;> rfl
@[simp] theorem State.keepSample_cOp (s : State) (r : RegSet) : (s.keepSample r).cOp = s.cOp := by cases r <;> rfl
@[simp] theorem State.keepSample_cA (s : State) (r : RegSet) : (s.keepSample r).cA = s.cA := by cases r <;> rfl
@[simp] theorem State.keepSample_cB (s : State) (r : RegSet) : (s.keepSample r).cB = s.cB := by cases r <;> rfl
@[simp] theorem State.keepSample_cSrc (s : State) (r : RegSet) : (s.keepSample r).cSrc = s.cSrc := by cases r <;> rfl
@[simp] theorem State.keepSample_rspSt (s : State) (r : RegSet) :
    (s.keepSample r).rspSt = s.rspSt := by cases r <;> rfl
@[simp] theorem State.keepSample_rspD (s : State) (r : RegSet) : (s.keepSample r).rspD = s.rspD := by cases r <;> rfl
@[simp] theorem State.keepSample_rspValid (s : State) (r : RegSet) :
    (s.keepSample r).rspValid = s.rspValid := by cases r <;> rfl
@[simp] theorem State.keepSample_trace (s : State) (r : RegSet) :
    (s.keepSample r).trace = s.trace := by cases r <;> rfl
@[simp] theorem State.keepSample_responses (s : State) (r : RegSet) :
    (s.keepSample r).responses = s.responses := by cases r <;> rfl
@[simp] theorem State.keepSample_en (s : State) (r : RegSet) : (s.keepSample r).en = s.en := by cases r <;> rfl
@[simp] theorem State.keepSample_load (s : State) (r : RegSet) : (s.keepSample r).load = s.load := by cases r <;> rfl
@[simp] theorem State.keepSample_released (s : State) (r : RegSet) :
    (s.keepSample r).released = s.released := by cases r <;> rfl
@[simp] theorem State.keepSample_cmds (s : State) (r : RegSet) : (s.keepSample r).cmds = s.cmds := by cases r <;> rfl
@[simp] theorem State.keepSample_inputs (s : State) (r : RegSet) :
    (s.keepSample r).inputs = s.inputs := by cases r <;> rfl
@[simp] theorem State.keepSample_env (s : State) (r : RegSet) : (s.keepSample r).env = s.env := by cases r <;> rfl
@[simp] theorem State.keepSample_cfg (s : State) (r : RegSet) : (s.keepSample r).cfg = s.cfg := by cases r <;> rfl
@[simp] theorem State.keepSample_grain (s : State) (r : RegSet) :
    (s.keepSample r).grain = s.grain := by cases r <;> rfl

/-! showLevels -/

@[simp] theorem State.showLevels_mode (s : State) : s.showLevels.mode = s.mode := rfl
@[simp] theorem State.showLevels_sh0 (s : State) : s.showLevels.sh0 = s.sh0 := rfl
@[simp] theorem State.showLevels_sh1 (s : State) : s.showLevels.sh1 = s.sh1 := rfl
@[simp] theorem State.showLevels_tOff (s : State) : s.showLevels.tOff = s.tOff := rfl
@[simp] theorem State.showLevels_tVal (s : State) : s.showLevels.tVal = s.tVal := rfl
@[simp] theorem State.showLevels_tRd (s : State) : s.showLevels.tRd = s.tRd := rfl
@[simp] theorem State.showLevels_tRes (s : State) : s.showLevels.tRes = s.tRes := rfl
@[simp] theorem State.showLevels_busy (s : State) : s.showLevels.busy = s.busy := rfl
@[simp] theorem State.showLevels_cs (s : State) : s.showLevels.cs = s.cs := rfl
@[simp] theorem State.showLevels_ph (s : State) : s.showLevels.ph = s.ph := rfl
@[simp] theorem State.showLevels_disp (s : State) : s.showLevels.disp = s.cfg.pinMap.map (pinLevel s.in0 s.in1) := rfl
@[simp] theorem State.showLevels_pollCnt (s : State) : s.showLevels.pollCnt = s.pollCnt := rfl
@[simp] theorem State.showLevels_pollEn (s : State) : s.showLevels.pollEn = s.pollEn := rfl
@[simp] theorem State.showLevels_wCnt (s : State) : s.showLevels.wCnt = s.wCnt := rfl
@[simp] theorem State.showLevels_cOp (s : State) : s.showLevels.cOp = s.cOp := rfl
@[simp] theorem State.showLevels_cA (s : State) : s.showLevels.cA = s.cA := rfl
@[simp] theorem State.showLevels_cB (s : State) : s.showLevels.cB = s.cB := rfl
@[simp] theorem State.showLevels_cSrc (s : State) : s.showLevels.cSrc = s.cSrc := rfl
@[simp] theorem State.showLevels_rspSt (s : State) : s.showLevels.rspSt = s.rspSt := rfl
@[simp] theorem State.showLevels_rspD (s : State) : s.showLevels.rspD = s.rspD := rfl
@[simp] theorem State.showLevels_rspValid (s : State) : s.showLevels.rspValid = s.rspValid := rfl
@[simp] theorem State.showLevels_in0 (s : State) : s.showLevels.in0 = s.in0 := rfl
@[simp] theorem State.showLevels_in1 (s : State) : s.showLevels.in1 = s.in1 := rfl
@[simp] theorem State.showLevels_trace (s : State) : s.showLevels.trace = s.trace := rfl
@[simp] theorem State.showLevels_responses (s : State) : s.showLevels.responses = s.responses := rfl
@[simp] theorem State.showLevels_en (s : State) : s.showLevels.en = s.en := rfl
@[simp] theorem State.showLevels_load (s : State) : s.showLevels.load = s.load := rfl
@[simp] theorem State.showLevels_released (s : State) : s.showLevels.released = s.released := rfl
@[simp] theorem State.showLevels_cmds (s : State) : s.showLevels.cmds = s.cmds := rfl
@[simp] theorem State.showLevels_inputs (s : State) : s.showLevels.inputs = s.inputs := rfl
@[simp] theorem State.showLevels_env (s : State) : s.showLevels.env = s.env := rfl
@[simp] theorem State.showLevels_cfg (s : State) : s.showLevels.cfg = s.cfg := rfl
@[simp] theorem State.showLevels_grain (s : State) : s.showLevels.grain = s.grain := rfl

/-! accept -/

@[simp] theorem State.accept_mode (s : State) (src : Source) (w : CmdWord) : (s.accept src w).mode = s.mode := rfl
@[simp] theorem State.accept_sh0 (s : State) (src : Source) (w : CmdWord) : (s.accept src w).sh0 = s.sh0 := rfl
@[simp] theorem State.accept_sh1 (s : State) (src : Source) (w : CmdWord) : (s.accept src w).sh1 = s.sh1 := rfl
@[simp] theorem State.accept_tOff (s : State) (src : Source) (w : CmdWord) : (s.accept src w).tOff = s.tOff := rfl
@[simp] theorem State.accept_tVal (s : State) (src : Source) (w : CmdWord) : (s.accept src w).tVal = s.tVal := rfl
@[simp] theorem State.accept_tRd (s : State) (src : Source) (w : CmdWord) : (s.accept src w).tRd = s.tRd := rfl
@[simp] theorem State.accept_tRes (s : State) (src : Source) (w : CmdWord) : (s.accept src w).tRes = s.tRes := rfl
@[simp] theorem State.accept_busy (s : State) (src : Source) (w : CmdWord) : (s.accept src w).busy = true := rfl
@[simp] theorem State.accept_cs (s : State) (src : Source) (w : CmdWord) : (s.accept src w).cs = 0 := rfl
@[simp] theorem State.accept_ph (s : State) (src : Source) (w : CmdWord) : (s.accept src w).ph = .sClr := rfl
@[simp] theorem State.accept_disp (s : State) (src : Source) (w : CmdWord) : (s.accept src w).disp = s.disp := rfl
@[simp] theorem State.accept_pollCnt (s : State) (src : Source) (w : CmdWord) :
    (s.accept src w).pollCnt = s.pollCnt := rfl
@[simp] theorem State.accept_pollEn (s : State) (src : Source) (w : CmdWord) :
    (s.accept src w).pollEn = s.pollEn := rfl
@[simp] theorem State.accept_wCnt (s : State) (src : Source) (w : CmdWord) : (s.accept src w).wCnt = s.wCnt := rfl
@[simp] theorem State.accept_cOp (s : State) (src : Source) (w : CmdWord) : (s.accept src w).cOp = CmdWord.op w := rfl
@[simp] theorem State.accept_cA (s : State) (src : Source) (w : CmdWord) : (s.accept src w).cA = CmdWord.a w := rfl
@[simp] theorem State.accept_cB (s : State) (src : Source) (w : CmdWord) : (s.accept src w).cB = CmdWord.b w := rfl
@[simp] theorem State.accept_cSrc (s : State) (src : Source) (w : CmdWord) : (s.accept src w).cSrc = src := rfl
@[simp] theorem State.accept_rspSt (s : State) (src : Source) (w : CmdWord) : (s.accept src w).rspSt = s.rspSt := rfl
@[simp] theorem State.accept_rspD (s : State) (src : Source) (w : CmdWord) : (s.accept src w).rspD = s.rspD := rfl
@[simp] theorem State.accept_rspValid (s : State) (src : Source) (w : CmdWord) :
    (s.accept src w).rspValid = s.rspValid := rfl
@[simp] theorem State.accept_in0 (s : State) (src : Source) (w : CmdWord) : (s.accept src w).in0 = s.in0 := rfl
@[simp] theorem State.accept_in1 (s : State) (src : Source) (w : CmdWord) : (s.accept src w).in1 = s.in1 := rfl
@[simp] theorem State.accept_trace (s : State) (src : Source) (w : CmdWord) : (s.accept src w).trace = s.trace := rfl
@[simp] theorem State.accept_responses (s : State) (src : Source) (w : CmdWord) :
    (s.accept src w).responses = s.responses := rfl
@[simp] theorem State.accept_en (s : State) (src : Source) (w : CmdWord) : (s.accept src w).en = s.en := rfl
@[simp] theorem State.accept_load (s : State) (src : Source) (w : CmdWord) : (s.accept src w).load = s.load := rfl
@[simp] theorem State.accept_released (s : State) (src : Source) (w : CmdWord) :
    (s.accept src w).released = s.released := rfl
@[simp] theorem State.accept_cmds (s : State) (src : Source) (w : CmdWord) : (s.accept src w).cmds = s.cmds := rfl
@[simp] theorem State.accept_inputs (s : State) (src : Source) (w : CmdWord) :
    (s.accept src w).inputs = s.inputs := rfl
@[simp] theorem State.accept_env (s : State) (src : Source) (w : CmdWord) : (s.accept src w).env = s.env := rfl
@[simp] theorem State.accept_cfg (s : State) (src : Source) (w : CmdWord) : (s.accept src w).cfg = s.cfg := rfl
@[simp] theorem State.accept_grain (s : State) (src : Source) (w : CmdWord) : (s.accept src w).grain = s.grain := rfl

/-! beginCycle -/

@[simp] theorem State.beginCycle_mode (s : State) : s.beginCycle.mode = s.mode := rfl
@[simp] theorem State.beginCycle_sh0 (s : State) : s.beginCycle.sh0 = s.sh0 := rfl
@[simp] theorem State.beginCycle_sh1 (s : State) : s.beginCycle.sh1 = s.sh1 := rfl
@[simp] theorem State.beginCycle_tOff (s : State) : s.beginCycle.tOff = s.tOff := rfl
@[simp] theorem State.beginCycle_tVal (s : State) : s.beginCycle.tVal = s.tVal := rfl
@[simp] theorem State.beginCycle_tRd (s : State) : s.beginCycle.tRd = s.tRd := rfl
@[simp] theorem State.beginCycle_tRes (s : State) : s.beginCycle.tRes = s.tRes := rfl
@[simp] theorem State.beginCycle_busy (s : State) : s.beginCycle.busy = s.busy := rfl
@[simp] theorem State.beginCycle_cs (s : State) : s.beginCycle.cs = s.cs := rfl
@[simp] theorem State.beginCycle_ph (s : State) : s.beginCycle.ph = s.ph := rfl
@[simp] theorem State.beginCycle_disp (s : State) : s.beginCycle.disp = s.disp := rfl
@[simp] theorem State.beginCycle_pollCnt (s : State) : s.beginCycle.pollCnt = s.pollCnt := rfl
@[simp] theorem State.beginCycle_pollEn (s : State) : s.beginCycle.pollEn = s.pollEn := rfl
@[simp] theorem State.beginCycle_wCnt (s : State) : s.beginCycle.wCnt = s.wCnt := rfl
@[simp] theorem State.beginCycle_cOp (s : State) : s.beginCycle.cOp = s.cOp := rfl
@[simp] theorem State.beginCycle_cA (s : State) : s.beginCycle.cA = s.cA := rfl
@[simp] theorem State.beginCycle_cB (s : State) : s.beginCycle.cB = s.cB := rfl
@[simp] theorem State.beginCycle_cSrc (s : State) : s.beginCycle.cSrc = s.cSrc := rfl
@[simp] theorem State.beginCycle_rspSt (s : State) : s.beginCycle.rspSt = s.rspSt := rfl
@[simp] theorem State.beginCycle_rspD (s : State) : s.beginCycle.rspD = s.rspD := rfl
@[simp] theorem State.beginCycle_rspValid (s : State) : s.beginCycle.rspValid = false := rfl
@[simp] theorem State.beginCycle_in0 (s : State) : s.beginCycle.in0 = s.in0 := rfl
@[simp] theorem State.beginCycle_in1 (s : State) : s.beginCycle.in1 = s.in1 := rfl
@[simp] theorem State.beginCycle_trace (s : State) : s.beginCycle.trace = s.trace := rfl
@[simp] theorem State.beginCycle_responses (s : State) : s.beginCycle.responses = s.responses := rfl
@[simp] theorem State.beginCycle_en (s : State) : s.beginCycle.en = s.en := rfl
@[simp] theorem State.beginCycle_load (s : State) : s.beginCycle.load = s.load := rfl
@[simp] theorem State.beginCycle_released (s : State) : s.beginCycle.released = s.released := rfl
@[simp] theorem State.beginCycle_cmds (s : State) : s.beginCycle.cmds = s.cmds := rfl
@[simp] theorem State.beginCycle_inputs (s : State) : s.beginCycle.inputs = s.inputs.tail := rfl
@[simp] theorem State.beginCycle_env (s : State) : s.beginCycle.env = s.env := rfl
@[simp] theorem State.beginCycle_cfg (s : State) : s.beginCycle.cfg = s.cfg := rfl
@[simp] theorem State.beginCycle_grain (s : State) : s.beginCycle.grain = s.grain := rfl

/-! The two transactions, whole (R121, R122). -/

/-- Everything TXW does to the state. -/
theorem State.txw_eq (s : State) (off val : Byte) :
    s.txw off val = { s with
      trace := s.trace ++ writeEntries off val, env := s.env.writeTransfer off val
      tRd := false, tOff := off, tVal := val, wCnt := 0, cs := s.cs + 1, ph := .sClr } := by
  simp only [State.txw, State.loadWrite, State.clearStatus, State.setTarget, State.addressForWrite,
    State.setPayload, State.startTransfer, State.endWait, State.portWrite, State.toPhase, State.endItem,
    Bool.false_eq_true, if_false, List.append_assoc, List.cons_append, List.nil_append]
  rfl

/-- Everything TXR does to the state. -/
theorem State.txr_eq (s : State) (off : Byte) :
    s.txr off = { s with
      trace := s.trace ++ readEntries off ((s.env.readRequest off).readByte portData)
      env := (s.env.readRequest off).afterRead portData
      tRd := true, tOff := off, tRes := (s.env.readRequest off).readByte portData
      wCnt := 0, cs := s.cs + 1, ph := .sClr } := by
  simp only [State.txr, State.loadRead, State.clearStatus, State.setTarget, State.addressForRead,
    State.startTransfer, State.endWait, State.sampleData, State.portWrite, State.portRead, State.toPhase,
    State.endItem, if_true, List.append_assoc, List.cons_append, List.nil_append]
  rfl

@[simp] theorem State.txw_mode (s : State) (off val : Byte) : (s.txw off val).mode = s.mode := by rw [State.txw_eq]
@[simp] theorem State.txw_sh0 (s : State) (off val : Byte) : (s.txw off val).sh0 = s.sh0 := by rw [State.txw_eq]
@[simp] theorem State.txw_sh1 (s : State) (off val : Byte) : (s.txw off val).sh1 = s.sh1 := by rw [State.txw_eq]
@[simp] theorem State.txw_tOff (s : State) (off val : Byte) : (s.txw off val).tOff = off := by rw [State.txw_eq]
@[simp] theorem State.txw_tVal (s : State) (off val : Byte) : (s.txw off val).tVal = val := by rw [State.txw_eq]
@[simp] theorem State.txw_tRd (s : State) (off val : Byte) : (s.txw off val).tRd = false := by rw [State.txw_eq]
@[simp] theorem State.txw_tRes (s : State) (off val : Byte) : (s.txw off val).tRes = s.tRes := by rw [State.txw_eq]
@[simp] theorem State.txw_busy (s : State) (off val : Byte) : (s.txw off val).busy = s.busy := by rw [State.txw_eq]
@[simp] theorem State.txw_cs (s : State) (off val : Byte) : (s.txw off val).cs = s.cs + 1 := by rw [State.txw_eq]
@[simp] theorem State.txw_ph (s : State) (off val : Byte) : (s.txw off val).ph = .sClr := by rw [State.txw_eq]
@[simp] theorem State.txw_disp (s : State) (off val : Byte) : (s.txw off val).disp = s.disp := by rw [State.txw_eq]
@[simp] theorem State.txw_pollCnt (s : State) (off val : Byte) :
    (s.txw off val).pollCnt = s.pollCnt := by rw [State.txw_eq]
@[simp] theorem State.txw_pollEn (s : State) (off val : Byte) :
    (s.txw off val).pollEn = s.pollEn := by rw [State.txw_eq]
@[simp] theorem State.txw_wCnt (s : State) (off val : Byte) : (s.txw off val).wCnt = 0 := by rw [State.txw_eq]
@[simp] theorem State.txw_cOp (s : State) (off val : Byte) : (s.txw off val).cOp = s.cOp := by rw [State.txw_eq]
@[simp] theorem State.txw_cA (s : State) (off val : Byte) : (s.txw off val).cA = s.cA := by rw [State.txw_eq]
@[simp] theorem State.txw_cB (s : State) (off val : Byte) : (s.txw off val).cB = s.cB := by rw [State.txw_eq]
@[simp] theorem State.txw_cSrc (s : State) (off val : Byte) : (s.txw off val).cSrc = s.cSrc := by rw [State.txw_eq]
@[simp] theorem State.txw_rspSt (s : State) (off val : Byte) : (s.txw off val).rspSt = s.rspSt := by rw [State.txw_eq]
@[simp] theorem State.txw_rspD (s : State) (off val : Byte) : (s.txw off val).rspD = s.rspD := by rw [State.txw_eq]
@[simp] theorem State.txw_rspValid (s : State) (off val : Byte) :
    (s.txw off val).rspValid = s.rspValid := by rw [State.txw_eq]
@[simp] theorem State.txw_in0 (s : State) (off val : Byte) : (s.txw off val).in0 = s.in0 := by rw [State.txw_eq]
@[simp] theorem State.txw_in1 (s : State) (off val : Byte) : (s.txw off val).in1 = s.in1 := by rw [State.txw_eq]
@[simp] theorem State.txw_trace (s : State) (off val : Byte) :
    (s.txw off val).trace = s.trace ++ writeEntries off val := by rw [State.txw_eq]
@[simp] theorem State.txw_responses (s : State) (off val : Byte) :
    (s.txw off val).responses = s.responses := by rw [State.txw_eq]
@[simp] theorem State.txw_en (s : State) (off val : Byte) : (s.txw off val).en = s.en := by rw [State.txw_eq]
@[simp] theorem State.txw_load (s : State) (off val : Byte) : (s.txw off val).load = s.load := by rw [State.txw_eq]
@[simp] theorem State.txw_released (s : State) (off val : Byte) :
    (s.txw off val).released = s.released := by rw [State.txw_eq]
@[simp] theorem State.txw_cmds (s : State) (off val : Byte) : (s.txw off val).cmds = s.cmds := by rw [State.txw_eq]
@[simp] theorem State.txw_inputs (s : State) (off val : Byte) :
    (s.txw off val).inputs = s.inputs := by rw [State.txw_eq]
@[simp] theorem State.txw_env (s : State) (off val : Byte) :
    (s.txw off val).env = s.env.writeTransfer off val := by rw [State.txw_eq]
@[simp] theorem State.txw_cfg (s : State) (off val : Byte) : (s.txw off val).cfg = s.cfg := by rw [State.txw_eq]
@[simp] theorem State.txw_grain (s : State) (off val : Byte) : (s.txw off val).grain = s.grain := by rw [State.txw_eq]

@[simp] theorem State.txr_mode (s : State) (off : Byte) : (s.txr off).mode = s.mode := by rw [State.txr_eq]
@[simp] theorem State.txr_sh0 (s : State) (off : Byte) : (s.txr off).sh0 = s.sh0 := by rw [State.txr_eq]
@[simp] theorem State.txr_sh1 (s : State) (off : Byte) : (s.txr off).sh1 = s.sh1 := by rw [State.txr_eq]
@[simp] theorem State.txr_tOff (s : State) (off : Byte) : (s.txr off).tOff = off := by rw [State.txr_eq]
@[simp] theorem State.txr_tVal (s : State) (off : Byte) : (s.txr off).tVal = s.tVal := by rw [State.txr_eq]
@[simp] theorem State.txr_tRd (s : State) (off : Byte) : (s.txr off).tRd = true := by rw [State.txr_eq]
@[simp] theorem State.txr_tRes (s : State) (off : Byte) :
    (s.txr off).tRes = (s.env.readRequest off).readByte portData := by rw [State.txr_eq]
@[simp] theorem State.txr_busy (s : State) (off : Byte) : (s.txr off).busy = s.busy := by rw [State.txr_eq]
@[simp] theorem State.txr_cs (s : State) (off : Byte) : (s.txr off).cs = s.cs + 1 := by rw [State.txr_eq]
@[simp] theorem State.txr_ph (s : State) (off : Byte) : (s.txr off).ph = .sClr := by rw [State.txr_eq]
@[simp] theorem State.txr_disp (s : State) (off : Byte) : (s.txr off).disp = s.disp := by rw [State.txr_eq]
@[simp] theorem State.txr_pollCnt (s : State) (off : Byte) : (s.txr off).pollCnt = s.pollCnt := by rw [State.txr_eq]
@[simp] theorem State.txr_pollEn (s : State) (off : Byte) : (s.txr off).pollEn = s.pollEn := by rw [State.txr_eq]
@[simp] theorem State.txr_wCnt (s : State) (off : Byte) : (s.txr off).wCnt = 0 := by rw [State.txr_eq]
@[simp] theorem State.txr_cOp (s : State) (off : Byte) : (s.txr off).cOp = s.cOp := by rw [State.txr_eq]
@[simp] theorem State.txr_cA (s : State) (off : Byte) : (s.txr off).cA = s.cA := by rw [State.txr_eq]
@[simp] theorem State.txr_cB (s : State) (off : Byte) : (s.txr off).cB = s.cB := by rw [State.txr_eq]
@[simp] theorem State.txr_cSrc (s : State) (off : Byte) : (s.txr off).cSrc = s.cSrc := by rw [State.txr_eq]
@[simp] theorem State.txr_rspSt (s : State) (off : Byte) : (s.txr off).rspSt = s.rspSt := by rw [State.txr_eq]
@[simp] theorem State.txr_rspD (s : State) (off : Byte) : (s.txr off).rspD = s.rspD := by rw [State.txr_eq]
@[simp] theorem State.txr_rspValid (s : State) (off : Byte) :
    (s.txr off).rspValid = s.rspValid := by rw [State.txr_eq]
@[simp] theorem State.txr_in0 (s : State) (off : Byte) : (s.txr off).in0 = s.in0 := by rw [State.txr_eq]
@[simp] theorem State.txr_in1 (s : State) (off : Byte) : (s.txr off).in1 = s.in1 := by rw [State.txr_eq]
@[simp] theorem State.txr_trace (s : State) (off : Byte) :
    (s.txr off).trace = s.trace ++ readEntries off ((s.env.readRequest off).readByte portData) := by rw [State.txr_eq]
@[simp] theorem State.txr_responses (s : State) (off : Byte) :
    (s.txr off).responses = s.responses := by rw [State.txr_eq]
@[simp] theorem State.txr_en (s : State) (off : Byte) : (s.txr off).en = s.en := by rw [State.txr_eq]
@[simp] theorem State.txr_load (s : State) (off : Byte) : (s.txr off).load = s.load := by rw [State.txr_eq]
@[simp] theorem State.txr_released (s : State) (off : Byte) :
    (s.txr off).released = s.released := by rw [State.txr_eq]
@[simp] theorem State.txr_cmds (s : State) (off : Byte) : (s.txr off).cmds = s.cmds := by rw [State.txr_eq]
@[simp] theorem State.txr_inputs (s : State) (off : Byte) : (s.txr off).inputs = s.inputs := by rw [State.txr_eq]
@[simp] theorem State.txr_env (s : State) (off : Byte) :
    (s.txr off).env = (s.env.readRequest off).afterRead portData := by rw [State.txr_eq]
@[simp] theorem State.txr_cfg (s : State) (off : Byte) : (s.txr off).cfg = s.cfg := by rw [State.txr_eq]
@[simp] theorem State.txr_grain (s : State) (off : Byte) : (s.txr off).grain = s.grain := by rw [State.txr_eq]

/-! Shadow and sample by set. -/

@[simp] theorem State.setSh_set1_sh0 (s : State) (v : Byte) : (s.setSh .set1 v).sh0 = v := rfl
@[simp] theorem State.setSh_set1_sh1 (s : State) (v : Byte) : (s.setSh .set1 v).sh1 = s.sh1 := rfl
@[simp] theorem State.setSh_set2_sh0 (s : State) (v : Byte) : (s.setSh .set2 v).sh0 = s.sh0 := rfl
@[simp] theorem State.setSh_set2_sh1 (s : State) (v : Byte) : (s.setSh .set2 v).sh1 = v := rfl
@[simp] theorem State.keepSample_set1_in0 (s : State) : (s.keepSample .set1).in0 = s.tRes := rfl
@[simp] theorem State.keepSample_set1_in1 (s : State) : (s.keepSample .set1).in1 = s.in1 := rfl
@[simp] theorem State.keepSample_set2_in0 (s : State) : (s.keepSample .set2).in0 = s.in0 := rfl
@[simp] theorem State.keepSample_set2_in1 (s : State) : (s.keepSample .set2).in1 = s.tRes := rfl

/-- A pin write changes the shadow of one set and leaves the other (R151). -/
theorem State.setSh_sh (s : State) (r r' : RegSet) (v : Byte) :
    (s.setSh r v).sh r' = if r' = r then v else s.sh r' := by
  cases r <;> cases r' <;> rfl

/-! The three small updates of the mode machine are one field each. -/

@[simp] theorem State.enterOutput_eq (s : State) :
    s.enterOutput = { s with mode := .output, disp := PerPin.all .blank } := rfl
@[simp] theorem State.enterInput_eq (s : State) : s.enterInput = { s with mode := .input } := rfl
@[simp] theorem State.zeroShadows_eq (s : State) : s.zeroShadows = { s with sh0 := 0x00, sh1 := 0x00 } := rfl

end Sys2Proof.Machine
end

