-- ==== Sys2Proof/Laws/Env.lean ====
section
/-! SUPPORT. What port operations and whole transactions do to the environment: one lemma per operation, and one for
each transaction (WriteEffect, ReadEffect), which proofs cite instead of unfolding the environment. -/

namespace Sys2Proof.Machine

/-- A latch holds the byte latched, and every other port is as it was. -/
theorem Env.ioByte_latch (e : Env) (p q : Port) (v : Byte) :
    (e.latch p v).ioByte q = if q = p then v else e.ioByte q := by
  simp only [Env.latch, Env.ioByte, Memory.lookup_store, ← BitVec.toNat_eq]
  split <;> rfl

@[simp] theorem Env.chipByte_latch (e : Env) (p : Port) (v o : Byte) :
    (e.latch p v).chipByte o = e.chipByte o := rfl

/-- A chip register holds the byte written, and every other register is as it was. -/
theorem Env.chipByte_setChip (e : Env) (off v o : Byte) :
    (e.setChip off v).chipByte o = if o = off then v else e.chipByte o := by
  simp only [Env.setChip, Env.chipByte, Memory.lookup_store, ← BitVec.toNat_eq]
  split <;> rfl

@[simp] theorem Env.ioByte_setChip (e : Env) (off v : Byte) (p : Port) :
    (e.setChip off v).ioByte p = e.ioByte p := rfl
@[simp] theorem Env.ioByte_takeByte (e : Env) (p : Port) : e.takeByte.ioByte p = e.ioByte p := rfl
@[simp] theorem Env.ioByte_takeEffect (e : Env) (p : Port) : e.takeEffect.ioByte p = e.ioByte p := rfl
@[simp] theorem Env.chipByte_takeByte (e : Env) (o : Byte) : e.takeByte.chipByte o = e.chipByte o := rfl
@[simp] theorem Env.chipByte_takeEffect (e : Env) (o : Byte) : e.takeEffect.chipByte o = e.chipByte o := rfl

@[simp] theorem Env.changeChip_kind (e : Env) (cs : ChipEffect) : (e.changeChip cs).kind = e.kind := rfl
@[simp] theorem Env.changeChip_io (e : Env) (cs : ChipEffect) : (e.changeChip cs).io = e.io := rfl
@[simp] theorem Env.changeChip_answers (e : Env) (cs : ChipEffect) : (e.changeChip cs).answers = e.answers := rfl
@[simp] theorem Env.changeChip_draws (e : Env) (cs : ChipEffect) : (e.changeChip cs).draws = e.draws := rfl
@[simp] theorem Env.changeChip_effects (e : Env) (cs : ChipEffect) : (e.changeChip cs).effects = e.effects := rfl
@[simp] theorem Env.changeChip_transfers (e : Env) (cs : ChipEffect) : (e.changeChip cs).transfers = e.transfers := rfl
@[simp] theorem Env.changeChip_epoch (e : Env) (cs : ChipEffect) : (e.changeChip cs).epoch = e.epoch := rfl
@[simp] theorem Env.changeChip_chip (e : Env) (cs : ChipEffect) :
    (e.changeChip cs).chip = Memory.storeAll e.chip cs := rfl
@[simp] theorem Env.changeChip_nil (e : Env) : e.changeChip [] = e := rfl
@[simp] theorem Env.ioByte_changeChip (e : Env) (cs : ChipEffect) (p : Port) :
    (e.changeChip cs).ioByte p = e.ioByte p := rfl

/-- A change of the chip, one register at a time. -/
theorem Env.changeChip_cons (e : Env) (c : Byte × Byte) (cs : ChipEffect) :
    e.changeChip (c :: cs) = (e.setChip c.1 c.2).changeChip cs := rfl

/-- What a register holds after a change of the chip depends on what it held and on the change alone. -/
theorem Env.chipByte_changeChip_congr (e e' : Env) (cs : ChipEffect) (h : ∀ o, e'.chipByte o = e.chipByte o) (o : Byte) :
    (e'.changeChip cs).chipByte o = (e.changeChip cs).chipByte o := by
  induction cs generalizing e e' with
  | nil => exact h o
  | cons c cs ih =>
    rw [Env.changeChip_cons, Env.changeChip_cons]
    exact ih (e.setChip c.1 c.2) (e'.setChip c.1 c.2) fun o => by simp only [Env.chipByte_setChip, h]

/-- A register that a change of the chip does not name is as it was. -/
theorem Env.chipByte_changeChip_frame (e : Env) (cs : ChipEffect) (o : Byte) (h : ∀ v : Byte, (o, v) ∉ cs) :
    (e.changeChip cs).chipByte o = e.chipByte o := by
  induction cs generalizing e with
  | nil => rfl
  | cons c cs ih =>
    have hc : o ≠ c.1 := fun hc => h c.2 (by rw [hc]; exact List.mem_cons_self)
    refine (ih (e.setChip c.1 c.2) fun v hv => h v (List.mem_cons_of_mem _ hv)).trans ?_
    rw [Env.chipByte_setChip, if_neg hc]

/-- A change of the chip keeps the canonical form of its memory. -/
theorem Env.changeChip_wf (e : Env) (cs : ChipEffect) (h : Memory.wf (2 ^ 8) e.chip = true) :
    Memory.wf (2 ^ 8) (e.changeChip cs).chip = true := by
  induction cs generalizing e with
  | nil => exact h
  | cons c cs ih =>
    rw [Env.changeChip_cons]
    exact ih (e.setChip c.1 c.2) (Memory.wf_store _ _ _ _ c.1.isLt h)

/-- Everything the environment can do of its own accord in a clock step. -/
theorem Env.drift_cases (e : Env) (cs : ChipEffect) :
    (e.kind = .oracle ∧ e.drift cs = e.changeChip cs) ∨ (e.kind = .reference ∧ e.drift cs = e) := by
  unfold Env.drift
  cases h : e.kind
  · exact .inl ⟨rfl, rfl⟩
  · exact .inr ⟨rfl, rfl⟩

/-- What the environment does of its own accord touches the chip registers alone. -/
theorem Env.drift_eq (e : Env) (cs : ChipEffect) : e.drift cs = { e with chip := (e.drift cs).chip } := by
  rcases e.drift_cases cs with ⟨-, h⟩ | ⟨-, h⟩ <;> rw [h]
  rfl

@[simp] theorem Env.drift_nil (e : Env) : e.drift [] = e := by
  rcases e.drift_cases [] with ⟨-, h⟩ | ⟨-, h⟩ <;> rw [h]
  rfl
@[simp] theorem Env.drift_kind (e : Env) (cs : ChipEffect) : (e.drift cs).kind = e.kind := by rw [Env.drift_eq]
@[simp] theorem Env.drift_io (e : Env) (cs : ChipEffect) : (e.drift cs).io = e.io := by rw [Env.drift_eq]
@[simp] theorem Env.drift_answers (e : Env) (cs : ChipEffect) : (e.drift cs).answers = e.answers := by
  rw [Env.drift_eq]
@[simp] theorem Env.drift_draws (e : Env) (cs : ChipEffect) : (e.drift cs).draws = e.draws := by rw [Env.drift_eq]
@[simp] theorem Env.drift_effects (e : Env) (cs : ChipEffect) : (e.drift cs).effects = e.effects := by
  rw [Env.drift_eq]
@[simp] theorem Env.drift_transfers (e : Env) (cs : ChipEffect) : (e.drift cs).transfers = e.transfers := by
  rw [Env.drift_eq]
@[simp] theorem Env.drift_epoch (e : Env) (cs : ChipEffect) : (e.drift cs).epoch = e.epoch := by rw [Env.drift_eq]
@[simp] theorem Env.ioByte_drift (e : Env) (cs : ChipEffect) (p : Port) : (e.drift cs).ioByte p = e.ioByte p := by
  rw [Env.drift_eq]; rfl

/-- What the environment does of its own accord keeps the canonical form of the chip's memory. -/
theorem Env.drift_wf (e : Env) (cs : ChipEffect) (h : Memory.wf (2 ^ 8) e.chip = true) :
    Memory.wf (2 ^ 8) (e.drift cs).chip = true := by
  rcases e.drift_cases cs with ⟨-, hd⟩ | ⟨-, hd⟩ <;> rw [hd]
  · exact e.changeChip_wf cs h
  · exact h

/-- The trigger under the oracle is a free effect on the chip and nothing else, whatever led to it. -/
theorem Env.triggerOracle_transfer (e0 e : Env) (hc : ∀ o, e.chipByte o = e0.chipByte o)
    (he : e.effects = e0.effects) (ht : e.transfers = e0.transfers) : OracleTransfer e0 e.triggerOracle := by
  have hn : e.nextEffect = e0.nextEffect := by rw [Env.nextEffect, Env.nextEffect, he, ht]
  have hb : ∀ o, e.triggerOracle.chipByte o = (e0.changeChip e0.nextEffect).chipByte o := fun o => by
    rw [Env.triggerOracle, Env.chipByte_takeEffect, hn, Env.chipByte_changeChip_congr e0 e _ hc]
  refine ⟨?_, ?_, hb, fun o ho => (hb o).trans (Env.chipByte_changeChip_frame _ _ o ho)⟩
  · show (e.changeChip _).effects.tail = _; rw [Env.changeChip_effects, he]
  · show (e.changeChip _).transfers + 1 = _; rw [Env.changeChip_transfers, ht]

@[simp] theorem Env.ioByte_triggerOracle (e : Env) (p : Port) : e.triggerOracle.ioByte p = e.ioByte p := rfl

/-- The trigger under the oracle touches the chip registers and the effects to come alone. -/
theorem Env.triggerOracle_fields (e : Env) :
    e.triggerOracle.kind = e.kind ∧ e.triggerOracle.io = e.io ∧ e.triggerOracle.answers = e.answers
      ∧ e.triggerOracle.draws = e.draws ∧ e.triggerOracle.epoch = e.epoch :=
  ⟨rfl, rfl, rfl, rfl, rfl⟩

/-- A write to STATUS has no effect that the model gives a name. -/
@[simp] theorem Env.acceptWrite_status (e : Env) (v : Byte) : e.acceptWrite portStatus v = e := rfl
/-- CMD latches. -/
@[simp] theorem Env.acceptWrite_cmd (e : Env) (v : Byte) : e.acceptWrite portCmd v = e.latch portCmd v := rfl
/-- SLV latches. -/
@[simp] theorem Env.acceptWrite_slv (e : Env) (v : Byte) : e.acceptWrite portSlv v = e.latch portSlv v := rfl
/-- DATA latches. -/
@[simp] theorem Env.acceptWrite_data (e : Env) (v : Byte) : e.acceptWrite portData v = e.latch portData v := rfl
/-- BYTE_GO at CTRL triggers. -/
@[simp] theorem Env.acceptWrite_go (e : Env) : e.acceptWrite portCtrl byteGo = e.trigger := rfl

/-- The environment at the trigger of a write transaction. -/
def Env.writeLatched (e : Env) (off val : Byte) : Env :=
  ((e.latch portCmd off).latch portSlv slvWrite).latch portData val

/-- The environment at the trigger of a read transaction. -/
def Env.readLatched (e : Env) (off : Byte) : Env := (e.latch portCmd off).latch portSlv slvRead

theorem Env.writeTransfer_eq (e : Env) (off val : Byte) :
    e.writeTransfer off val = (e.writeLatched off val).trigger := rfl
theorem Env.readRequest_eq (e : Env) (off : Byte) : e.readRequest off = (e.readLatched off).trigger := rfl

theorem Env.writeLatched_ioByte (e : Env) (off val : Byte) (p : Port) :
    (e.writeLatched off val).ioByte p =
      if p = portData then val else if p = portSlv then slvWrite else if p = portCmd then off else e.ioByte p := by
  simp only [Env.writeLatched, Env.ioByte_latch]

theorem Env.readLatched_ioByte (e : Env) (off : Byte) (p : Port) :
    (e.readLatched off).ioByte p = if p = portSlv then slvRead else if p = portCmd then off else e.ioByte p := by
  simp only [Env.readLatched, Env.ioByte_latch]

/-- The trigger of a write transaction: free under the oracle; in ENV_REF the register takes the byte. -/
theorem Env.trigger_writeLatched (e : Env) (off val : Byte) :
    (e.writeLatched off val).trigger =
      match e.kind with
      | .oracle => (e.writeLatched off val).triggerOracle
      | .reference => (e.writeLatched off val).setChip off val := by
  have hc : (e.writeLatched off val).ioByte portCmd = off := by rw [Env.writeLatched_ioByte]; rfl
  have hs : (e.writeLatched off val).ioByte portSlv = slvWrite := by rw [Env.writeLatched_ioByte]; rfl
  have hd : (e.writeLatched off val).ioByte portData = val := by rw [Env.writeLatched_ioByte]; rfl
  have hk : (e.writeLatched off val).kind = e.kind := rfl
  rw [Env.trigger, hk]
  cases e.kind <;> simp only [Env.triggerReference, hc, hs, hd, if_true]

/-- The trigger of a read transaction: free under the oracle; in ENV_REF DATA takes the register. -/
theorem Env.trigger_readLatched (e : Env) (off : Byte) :
    (e.readLatched off).trigger =
      match e.kind with
      | .oracle => (e.readLatched off).triggerOracle
      | .reference =>
        if off = 0x12 ∨ off = 0x22 then (e.readLatched off).takeByte.latch portData e.nextByte
        else (e.readLatched off).latch portData (e.chipByte off) := by
  have hc : (e.readLatched off).ioByte portCmd = off := by rw [Env.readLatched_ioByte]; rfl
  have hs : (e.readLatched off).ioByte portSlv = slvRead := by rw [Env.readLatched_ioByte]; rfl
  have hk : (e.readLatched off).kind = e.kind := rfl
  have hne : ¬ (slvRead = slvWrite) := by decide
  rw [Env.trigger, hk]
  cases e.kind
  · rfl
  · simp only [Env.triggerReference, hc, hs, if_neg hne, if_true]
    rfl

/-- Everything a write transaction does to the environment. -/
theorem Env.writeTransfer_effect (e : Env) (off val : Byte) : WriteEffect off val e (e.writeTransfer off val) := by
  have hport : ∀ p : Port, p ≠ 0x0403 → p ≠ 0x0404 → p ≠ 0x0405 →
      (e.writeLatched off val).ioByte p = e.ioByte p := fun p h3 h4 h5 => by
    rw [Env.writeLatched_ioByte]
    simp only [portData, portSlv, portCmd, h3, h4, h5, if_false]
  have h3 : (e.writeLatched off val).ioByte 0x0403 = off := by rw [Env.writeLatched_ioByte]; rfl
  have h4 : (e.writeLatched off val).ioByte 0x0404 = 0x9C := by rw [Env.writeLatched_ioByte]; rfl
  have h5 : (e.writeLatched off val).ioByte 0x0405 = val := by rw [Env.writeLatched_ioByte]; rfl
  rw [Env.writeTransfer_eq, Env.trigger_writeLatched]
  cases hk : e.kind
  · obtain ⟨fk, -, fa, fd, fe⟩ := (e.writeLatched off val).triggerOracle_fields
    refine ⟨fk, fa, fd, fe, ?_, ?_, ?_, fun p g3 g4 g5 => ?_,
      fun _ => Env.triggerOracle_transfer e _ (fun _ => rfl) rfl rfl, fun h => (by rw [hk] at h; cases h)⟩
    all_goals simp only [Env.ioByte_triggerOracle]
    exacts [h3, h4, h5, hport p g3 g4 g5]
  · refine ⟨rfl, rfl, rfl, rfl, ?_, ?_, ?_, fun p g3 g4 g5 => ?_, fun h => (by rw [hk] at h; cases h),
      fun _ => ⟨rfl, rfl, ?_, fun o ho => ?_⟩⟩
    · exact h3
    · exact h4
    · exact h5
    · exact hport p g3 g4 g5
    · rw [Env.chipByte_setChip, if_pos rfl]
    · rw [Env.chipByte_setChip, if_neg ho]; rfl

/-- Everything a read transaction does to the environment, and the byte it returns. -/
theorem Env.read_effect (e : Env) (off : Byte) :
    ReadEffect off ((e.readRequest off).readByte portData) e ((e.readRequest off).afterRead portData) := by
  have hport : ∀ p : Port, p ≠ 0x0403 → p ≠ 0x0404 → (e.readLatched off).ioByte p = e.ioByte p := fun p h3 h4 => by
    rw [Env.readLatched_ioByte]
    simp only [portSlv, portCmd, h3, h4, if_false]
  have h3 : (e.readLatched off).ioByte 0x0403 = off := by rw [Env.readLatched_ioByte]; rfl
  have h4 : (e.readLatched off).ioByte 0x0404 = 0x9D := by rw [Env.readLatched_ioByte]; rfl
  have hlatch : ∀ (f : Env) (v : Byte) (p : Port), p ≠ 0x0405 → (f.latch portData v).ioByte p = f.ioByte p :=
    fun f v p hp => by rw [Env.ioByte_latch]; exact if_neg hp
  have hself : ∀ (f : Env) (v : Byte), (f.latch portData v).ioByte 0x0405 = v :=
    fun f v => by rw [Env.ioByte_latch]; exact if_pos rfl
  have n3 : (0x0403 : Port) ≠ 0x0405 := by decide
  have n4 : (0x0404 : Port) ≠ 0x0405 := by decide
  rw [Env.readRequest_eq, Env.trigger_readLatched]
  cases hk : e.kind
  · obtain ⟨fk, fi, fa, fd, fe⟩ := (e.readLatched off).triggerOracle_fields
    generalize hf : (e.readLatched off).triggerOracle = f at fk fi fa fd fe
    have hio : ∀ p, f.ioByte p = (e.readLatched off).ioByte p := fun p => by rw [← hf, Env.ioByte_triggerOracle]
    have hkf : f.kind = .oracle := fk.trans hk
    have hnb : f.nextByte = e.nextByte := by rw [Env.nextByte, Env.nextByte, fa, fd]; rfl
    have hr : f.readByte portData = e.nextByte := by
      rw [Env.readByte, if_neg (fun h => by rw [hkf] at h; cases h.1), hnb]
    have ha : f.afterRead portData = f.takeByte.latch portData e.nextByte := by
      simp only [Env.afterRead, if_true, hkf, hnb]
    have ho : OracleTransfer e f := by
      rw [← hf]; exact Env.triggerOracle_transfer e _ (fun _ => rfl) rfl rfl
    show ReadEffect off (f.readByte portData) e (f.afterRead portData)
    rw [hr, ha]
    refine ⟨fk, fe, ?_, ?_, hself _ _, fun p g3 g4 g5 => ?_, ?_, fun _ => ho, fun h => (by rw [hk] at h; cases h)⟩
    · rw [hlatch _ _ _ n3, Env.ioByte_takeByte, hio, h3]
    · rw [hlatch _ _ _ n4, Env.ioByte_takeByte, hio, h4]
    · rw [hlatch _ _ _ g5, Env.ioByte_takeByte, hio, hport p g3 g4]
    · rw [if_pos (.inl hk)]
      exact ⟨rfl, congrArg List.tail fa, congrArg (· + 1) fd⟩
  · by_cases h : off = 0x12 ∨ off = 0x22
    · simp only [h, if_true]
      have hr : ((e.readLatched off).takeByte.latch portData e.nextByte).readByte portData = e.nextByte := by
        rw [Env.readByte, if_pos ⟨hk, rfl⟩]; exact hself _ _
      have ha : ((e.readLatched off).takeByte.latch portData e.nextByte).afterRead portData
          = (e.readLatched off).takeByte.latch portData e.nextByte := by
        have : ((e.readLatched off).takeByte.latch portData e.nextByte).kind = .reference := hk
        simp only [Env.afterRead, if_true, this]
      rw [hr, ha]
      refine ⟨rfl, rfl, ?_, ?_, hself _ _, fun p g3 g4 g5 => ?_, ?_, fun g => (by rw [hk] at g; cases g),
        fun _ => ⟨rfl, rfl, fun _ => rfl⟩⟩
      · rw [hlatch _ _ _ n3, Env.ioByte_takeByte, h3]
      · rw [hlatch _ _ _ n4, Env.ioByte_takeByte, h4]
      · rw [hlatch _ _ _ g5, Env.ioByte_takeByte, hport p g3 g4]
      · rw [if_pos (.inr h)]; exact ⟨rfl, rfl, rfl⟩
    · simp only [h, if_false]
      have hr : ((e.readLatched off).latch portData (e.chipByte off)).readByte portData = e.chipByte off := by
        rw [Env.readByte, if_pos ⟨hk, rfl⟩]; exact hself _ _
      have ha : ((e.readLatched off).latch portData (e.chipByte off)).afterRead portData
          = (e.readLatched off).latch portData (e.chipByte off) := by
        have : ((e.readLatched off).latch portData (e.chipByte off)).kind = .reference := hk
        simp only [Env.afterRead, if_true, this]
      rw [hr, ha]
      refine ⟨rfl, rfl, ?_, ?_, hself _ _, fun p g3 g4 g5 => ?_, ?_, fun g => (by rw [hk] at g; cases g),
        fun _ => ⟨rfl, rfl, fun _ => rfl⟩⟩
      · rw [hlatch _ _ _ n3, h3]
      · rw [hlatch _ _ _ n4, h4]
      · rw [hlatch _ _ _ g5, hport p g3 g4]
      · rw [if_neg (by rw [hk]; rintro (g | g); · cases g
                       · exact h g)]
        exact ⟨rfl, rfl, rfl⟩

/-- Everything the trigger does to the environment. -/
theorem Env.trigger_effect (e : Env) : TriggerEffect e e.trigger := by
  unfold Env.trigger
  cases hk : e.kind
  · obtain ⟨fk, fi, fa, fd, fe⟩ := e.triggerOracle_fields
    exact ⟨fk, fe, fun p _ => Env.ioByte_triggerOracle e p,
      fun _ => ⟨fi, fa, fd, Env.triggerOracle_transfer e e (fun _ => rfl) rfl rfl⟩, fun h => (by rw [hk] at h; cases h)⟩
  · have hlatch : ∀ (f : Env) (v : Byte) (p : Port), p ≠ 0x0405 → (f.latch portData v).ioByte p = f.ioByte p :=
      fun f v p hp => by rw [Env.ioByte_latch]; exact if_neg hp
    have hself : ∀ (f : Env) (v : Byte), (f.latch portData v).ioByte 0x0405 = v :=
      fun f v => by rw [Env.ioByte_latch]; exact if_pos rfl
    show TriggerEffect e e.triggerReference
    unfold Env.triggerReference
    by_cases hw : e.ioByte portSlv = slvWrite
    · simp only [hw, if_true]
      refine ⟨rfl, rfl, fun p _ => rfl, fun h => (by rw [hk] at h; cases h), fun _ => ⟨rfl, rfl, fun o ho => ?_, ?_⟩⟩
      · rw [Env.chipByte_setChip]; exact if_neg ho
      · rw [if_pos (show e.ioByte 0x0404 = 0x9C from hw)]
        exact ⟨rfl, rfl, rfl, by rw [Env.chipByte_setChip]; exact if_pos rfl⟩
    · simp only [hw, if_false]
      by_cases hr : e.ioByte portSlv = slvRead
      · simp only [hr, if_true]
        by_cases hin : e.ioByte portCmd = offIn .set1 ∨ e.ioByte portCmd = offIn .set2
        · simp only [hin, if_true]
          refine ⟨rfl, rfl, fun p hp => hlatch _ _ _ hp, fun h => (by rw [hk] at h; cases h),
            fun _ => ⟨rfl, rfl, fun o _ => rfl, ?_⟩⟩
          rw [if_neg (show ¬ e.ioByte 0x0404 = 0x9C from hw), if_pos (show e.ioByte 0x0404 = 0x9D from hr)]
          exact ⟨rfl, by rw [if_pos (show e.ioByte 0x0403 = 0x12 ∨ e.ioByte 0x0403 = 0x22 from hin)]; exact ⟨hself _ _, rfl, rfl⟩⟩
        · simp only [hin, if_false]
          refine ⟨rfl, rfl, fun p hp => hlatch _ _ _ hp, fun h => (by rw [hk] at h; cases h),
            fun _ => ⟨rfl, rfl, fun o _ => rfl, ?_⟩⟩
          rw [if_neg (show ¬ e.ioByte 0x0404 = 0x9C from hw), if_pos (show e.ioByte 0x0404 = 0x9D from hr)]
          exact ⟨rfl, by rw [if_neg (show ¬ (e.ioByte 0x0403 = 0x12 ∨ e.ioByte 0x0403 = 0x22) from hin)]; exact ⟨hself _ _, rfl, rfl⟩⟩
      · simp only [hr, if_false]
        refine ⟨rfl, rfl, fun p _ => rfl, fun h => (by rw [hk] at h; cases h), fun _ => ⟨rfl, rfl, fun o _ => rfl, ?_⟩⟩
        rw [if_neg (show ¬ e.ioByte 0x0404 = 0x9C from hw), if_neg (show ¬ e.ioByte 0x0404 = 0x9D from hr)]

end Sys2Proof.Machine
end

