-- ==== Sys2Proof/Laws/PerInstr.lean ====
section
/-! SUPPORT. One lemma per instruction: its encoding is a well-formed word (R92, R99), as the independent check of
WellFormed.lean says. -/

namespace Sys2Proof.Laws.WellFormedEncoding

/-- The instruction's word is well formed. -/
def Statement (i : Instr) : Prop := (encode i).wellFormed = true

theorem wrreg (off val : Byte) : Statement (.wrreg off val) := by
  have h : CmdWord.slice (CmdWord.ofBytes 0x01 off val) 16 8 = 0x01 :=
    congrArg BitVec.toNat (CmdWord.op_ofBytes 0x01 off val)
  simp only [Statement, encode, CodeWord.wellFormed, CmdWord.wellFormed, h]
  rfl

theorem rdreg (off : Byte) : Statement (.rdreg off) := by
  have h : CmdWord.slice (CmdWord.ofBytes 0x02 off 0x00) 16 8 = 0x02 :=
    congrArg BitVec.toNat (CmdWord.op_ofBytes 0x02 off 0x00)
  have h' : CmdWord.slice (CmdWord.ofBytes 0x02 off 0x00) 0 8 = 0x00 :=
    congrArg BitVec.toNat (CmdWord.b_ofBytes 0x02 off 0x00)
  simp only [Statement, encode, CodeWord.wellFormed, CmdWord.wellFormed, h, h']
  rfl

theorem setdir (r : RegSet) (ao : Bool) : Statement (.setdir r ao) := by cases r <;> cases ao <;> rfl

theorem wrbit (p : LogicalPin) (h : Bool) : Statement (.wrbit p h) := by
  unfold Statement; revert p h; decide

theorem rdin (r : RegSet) : Statement (.rdin r) := by cases r <;> rfl

theorem swout : Statement .swout := rfl

theorem swin : Statement .swin := rfl

theorem allhi : Statement .allhi := rfl

theorem alllo : Statement .alllo := rfl

theorem tick : Statement .tick := rfl

theorem stClr : Statement .stClr := rfl

theorem setCmd (off : Byte) : Statement (.setCmd off) := by unfold Statement; revert off; decide

theorem setSlvW : Statement .setSlvW := rfl

theorem setSlvR : Statement .setSlvR := rfl

theorem setData (val : Byte) : Statement (.setData val) := by unfold Statement; revert val; decide

theorem go : Statement .go := rfl

theorem getData : Statement .getData := rfl

end Sys2Proof.Laws.WellFormedEncoding
end

