-- ==== Sys2Proof/Laws/Step.lean ====
section
/-! SUPPORT. What a clock step does around the command: fields of the input levels and of the poll timer, and the
inversion of the step, which says once everything a step can do. -/

namespace Sys2Proof.Machine

/-! The input levels touch EN, POLL_EN, LOADER's state, HOST's words and, for ENV, the chip registers alone. -/

@[simp] theorem State.levels_mode (s : State) (c : Cycle) : (s.levels c).mode = s.mode := by
  unfold State.levels State.releaseBus State.loaderReports; split <;> split <;> rfl
@[simp] theorem State.levels_sh0 (s : State) (c : Cycle) : (s.levels c).sh0 = s.sh0 := by
  unfold State.levels State.releaseBus State.loaderReports; split <;> split <;> rfl
@[simp] theorem State.levels_sh1 (s : State) (c : Cycle) : (s.levels c).sh1 = s.sh1 := by
  unfold State.levels State.releaseBus State.loaderReports; split <;> split <;> rfl
@[simp] theorem State.levels_tOff (s : State) (c : Cycle) : (s.levels c).tOff = s.tOff := by
  unfold State.levels State.releaseBus State.loaderReports; split <;> split <;> rfl
@[simp] theorem State.levels_tVal (s : State) (c : Cycle) : (s.levels c).tVal = s.tVal := by
  unfold State.levels State.releaseBus State.loaderReports; split <;> split <;> rfl
@[simp] theorem State.levels_tRd (s : State) (c : Cycle) : (s.levels c).tRd = s.tRd := by
  unfold State.levels State.releaseBus State.loaderReports; split <;> split <;> rfl
@[simp] theorem State.levels_tRes (s : State) (c : Cycle) : (s.levels c).tRes = s.tRes := by
  unfold State.levels State.releaseBus State.loaderReports; split <;> split <;> rfl
@[simp] theorem State.levels_busy (s : State) (c : Cycle) : (s.levels c).busy = s.busy := by
  unfold State.levels State.releaseBus State.loaderReports; split <;> split <;> rfl
@[simp] theorem State.levels_cs (s : State) (c : Cycle) : (s.levels c).cs = s.cs := by
  unfold State.levels State.releaseBus State.loaderReports; split <;> split <;> rfl
@[simp] theorem State.levels_ph (s : State) (c : Cycle) : (s.levels c).ph = s.ph := by
  unfold State.levels State.releaseBus State.loaderReports; split <;> split <;> rfl
@[simp] theorem State.levels_disp (s : State) (c : Cycle) : (s.levels c).disp = s.disp := by
  unfold State.levels State.releaseBus State.loaderReports; split <;> split <;> rfl
@[simp] theorem State.levels_pollCnt (s : State) (c : Cycle) : (s.levels c).pollCnt = s.pollCnt := by
  unfold State.levels State.releaseBus State.loaderReports; split <;> split <;> rfl
@[simp] theorem State.levels_wCnt (s : State) (c : Cycle) : (s.levels c).wCnt = s.wCnt := by
  unfold State.levels State.releaseBus State.loaderReports; split <;> split <;> rfl
@[simp] theorem State.levels_cOp (s : State) (c : Cycle) : (s.levels c).cOp = s.cOp := by
  unfold State.levels State.releaseBus State.loaderReports; split <;> split <;> rfl
@[simp] theorem State.levels_cA (s : State) (c : Cycle) : (s.levels c).cA = s.cA := by
  unfold State.levels State.releaseBus State.loaderReports; split <;> split <;> rfl
@[simp] theorem State.levels_cB (s : State) (c : Cycle) : (s.levels c).cB = s.cB := by
  unfold State.levels State.releaseBus State.loaderReports; split <;> split <;> rfl
@[simp] theorem State.levels_cSrc (s : State) (c : Cycle) : (s.levels c).cSrc = s.cSrc := by
  unfold State.levels State.releaseBus State.loaderReports; split <;> split <;> rfl
@[simp] theorem State.levels_rspSt (s : State) (c : Cycle) : (s.levels c).rspSt = s.rspSt := by
  unfold State.levels State.releaseBus State.loaderReports; split <;> split <;> rfl
@[simp] theorem State.levels_rspD (s : State) (c : Cycle) : (s.levels c).rspD = s.rspD := by
  unfold State.levels State.releaseBus State.loaderReports; split <;> split <;> rfl
@[simp] theorem State.levels_rspValid (s : State) (c : Cycle) : (s.levels c).rspValid = s.rspValid := by
  unfold State.levels State.releaseBus State.loaderReports; split <;> split <;> rfl
@[simp] theorem State.levels_in0 (s : State) (c : Cycle) : (s.levels c).in0 = s.in0 := by
  unfold State.levels State.releaseBus State.loaderReports; split <;> split <;> rfl
@[simp] theorem State.levels_in1 (s : State) (c : Cycle) : (s.levels c).in1 = s.in1 := by
  unfold State.levels State.releaseBus State.loaderReports; split <;> split <;> rfl
@[simp] theorem State.levels_trace (s : State) (c : Cycle) : (s.levels c).trace = s.trace := by
  unfold State.levels State.releaseBus State.loaderReports; split <;> split <;> rfl
@[simp] theorem State.levels_responses (s : State) (c : Cycle) : (s.levels c).responses = s.responses := by
  unfold State.levels State.releaseBus State.loaderReports; split <;> split <;> rfl
@[simp] theorem State.levels_inputs (s : State) (c : Cycle) : (s.levels c).inputs = s.inputs := by
  unfold State.levels State.releaseBus State.loaderReports; split <;> split <;> rfl
@[simp] theorem State.levels_env (s : State) (c : Cycle) : (s.levels c).env = s.env.drift c.chip := by
  unfold State.levels State.releaseBus State.loaderReports; split <;> split <;> rfl
@[simp] theorem State.levels_cfg (s : State) (c : Cycle) : (s.levels c).cfg = s.cfg := by
  unfold State.levels State.releaseBus State.loaderReports; split <;> split <;> rfl
@[simp] theorem State.levels_grain (s : State) (c : Cycle) : (s.levels c).grain = s.grain := by
  unfold State.levels State.releaseBus State.loaderReports; split <;> split <;> rfl

/-! The poll timer touches POLL_CNT alone. -/

@[simp] theorem State.countPoll_mode (s : State) (c : Cycle) : (s.countPoll c).mode = s.mode := by
  unfold State.countPoll; split <;> (try split) <;> rfl
@[simp] theorem State.countPoll_sh0 (s : State) (c : Cycle) : (s.countPoll c).sh0 = s.sh0 := by
  unfold State.countPoll; split <;> (try split) <;> rfl
@[simp] theorem State.countPoll_sh1 (s : State) (c : Cycle) : (s.countPoll c).sh1 = s.sh1 := by
  unfold State.countPoll; split <;> (try split) <;> rfl
@[simp] theorem State.countPoll_tOff (s : State) (c : Cycle) : (s.countPoll c).tOff = s.tOff := by
  unfold State.countPoll; split <;> (try split) <;> rfl
@[simp] theorem State.countPoll_tVal (s : State) (c : Cycle) : (s.countPoll c).tVal = s.tVal := by
  unfold State.countPoll; split <;> (try split) <;> rfl
@[simp] theorem State.countPoll_tRd (s : State) (c : Cycle) : (s.countPoll c).tRd = s.tRd := by
  unfold State.countPoll; split <;> (try split) <;> rfl
@[simp] theorem State.countPoll_tRes (s : State) (c : Cycle) : (s.countPoll c).tRes = s.tRes := by
  unfold State.countPoll; split <;> (try split) <;> rfl
@[simp] theorem State.countPoll_busy (s : State) (c : Cycle) : (s.countPoll c).busy = s.busy := by
  unfold State.countPoll; split <;> (try split) <;> rfl
@[simp] theorem State.countPoll_cs (s : State) (c : Cycle) : (s.countPoll c).cs = s.cs := by
  unfold State.countPoll; split <;> (try split) <;> rfl
@[simp] theorem State.countPoll_ph (s : State) (c : Cycle) : (s.countPoll c).ph = s.ph := by
  unfold State.countPoll; split <;> (try split) <;> rfl
@[simp] theorem State.countPoll_disp (s : State) (c : Cycle) : (s.countPoll c).disp = s.disp := by
  unfold State.countPoll; split <;> (try split) <;> rfl
@[simp] theorem State.countPoll_pollEn (s : State) (c : Cycle) : (s.countPoll c).pollEn = s.pollEn := by
  unfold State.countPoll; split <;> (try split) <;> rfl
@[simp] theorem State.countPoll_wCnt (s : State) (c : Cycle) : (s.countPoll c).wCnt = s.wCnt := by
  unfold State.countPoll; split <;> (try split) <;> rfl
@[simp] theorem State.countPoll_cOp (s : State) (c : Cycle) : (s.countPoll c).cOp = s.cOp := by
  unfold State.countPoll; split <;> (try split) <;> rfl
@[simp] theorem State.countPoll_cA (s : State) (c : Cycle) : (s.countPoll c).cA = s.cA := by
  unfold State.countPoll; split <;> (try split) <;> rfl
@[simp] theorem State.countPoll_cB (s : State) (c : Cycle) : (s.countPoll c).cB = s.cB := by
  unfold State.countPoll; split <;> (try split) <;> rfl
@[simp] theorem State.countPoll_cSrc (s : State) (c : Cycle) : (s.countPoll c).cSrc = s.cSrc := by
  unfold State.countPoll; split <;> (try split) <;> rfl
@[simp] theorem State.countPoll_rspSt (s : State) (c : Cycle) : (s.countPoll c).rspSt = s.rspSt := by
  unfold State.countPoll; split <;> (try split) <;> rfl
@[simp] theorem State.countPoll_rspD (s : State) (c : Cycle) : (s.countPoll c).rspD = s.rspD := by
  unfold State.countPoll; split <;> (try split) <;> rfl
@[simp] theorem State.countPoll_rspValid (s : State) (c : Cycle) : (s.countPoll c).rspValid = s.rspValid := by
  unfold State.countPoll; split <;> (try split) <;> rfl
@[simp] theorem State.countPoll_in0 (s : State) (c : Cycle) : (s.countPoll c).in0 = s.in0 := by
  unfold State.countPoll; split <;> (try split) <;> rfl
@[simp] theorem State.countPoll_in1 (s : State) (c : Cycle) : (s.countPoll c).in1 = s.in1 := by
  unfold State.countPoll; split <;> (try split) <;> rfl
@[simp] theorem State.countPoll_trace (s : State) (c : Cycle) : (s.countPoll c).trace = s.trace := by
  unfold State.countPoll; split <;> (try split) <;> rfl
@[simp] theorem State.countPoll_responses (s : State) (c : Cycle) : (s.countPoll c).responses = s.responses := by
  unfold State.countPoll; split <;> (try split) <;> rfl
@[simp] theorem State.countPoll_en (s : State) (c : Cycle) : (s.countPoll c).en = s.en := by
  unfold State.countPoll; split <;> (try split) <;> rfl
@[simp] theorem State.countPoll_load (s : State) (c : Cycle) : (s.countPoll c).load = s.load := by
  unfold State.countPoll; split <;> (try split) <;> rfl
@[simp] theorem State.countPoll_released (s : State) (c : Cycle) : (s.countPoll c).released = s.released := by
  unfold State.countPoll; split <;> (try split) <;> rfl
@[simp] theorem State.countPoll_cmds (s : State) (c : Cycle) : (s.countPoll c).cmds = s.cmds := by
  unfold State.countPoll; split <;> (try split) <;> rfl
@[simp] theorem State.countPoll_inputs (s : State) (c : Cycle) : (s.countPoll c).inputs = s.inputs := by
  unfold State.countPoll; split <;> (try split) <;> rfl
@[simp] theorem State.countPoll_env (s : State) (c : Cycle) : (s.countPoll c).env = s.env := by
  unfold State.countPoll; split <;> (try split) <;> rfl
@[simp] theorem State.countPoll_cfg (s : State) (c : Cycle) : (s.countPoll c).cfg = s.cfg := by
  unfold State.countPoll; split <;> (try split) <;> rfl
@[simp] theorem State.countPoll_grain (s : State) (c : Cycle) : (s.countPoll c).grain = s.grain := by
  unfold State.countPoll; split <;> (try split) <;> rfl

/-- The words at the command port after the input levels: those there and the one that comes (R36). -/
theorem State.levels_cmds (s : State) (c : Cycle) : (s.levels c).cmds = s.cmds ++ c.cmd.toList := by
  unfold State.levels State.releaseBus State.loaderReports; split <;> split <;> rfl

/-- Everything a step that answers a next state has done. -/
theorem step_cases {s t : State} (h : step s = .next t) :
    s.cycle.foreign = false ∧
      ((s.cycle.rst = true ∧ t = (s.beginCycle.levels s.cycle).blockReset) ∨
      (s.cycle.rst = false ∧ ∃ u : State, u = (s.beginCycle.levels s.cycle).countPoll s.cycle ∧
        ((u.en = false ∧ t = u) ∨
        (u.en = true ∧ u.busy = true ∧ u.microStep s.cycle.tu = .next t) ∨
        (u.en = true ∧ u.busy = false ∧ t = u) ∨
        (u.en = true ∧ u.busy = false ∧ u.takeTick = .next t) ∨
        (u.en = true ∧ u.busy = false ∧ ∃ w rest, u.cmds = w :: rest ∧ u.takeCommand w rest = .next t)))) := by
  unfold step State.clock at h
  cases hf : s.cycle.foreign
  · simp only [hf, Bool.false_eq_true, if_false] at h
    refine ⟨rfl, ?_⟩
    cases hr : s.cycle.rst
    · simp only [hr, Bool.false_eq_true, if_false] at h
      refine .inr ⟨rfl, _, rfl, ?_⟩
      unfold State.work State.idleStep at h
      split at h
      · rename_i hen
        split at h
        · rename_i hb
          exact .inr (.inl ⟨hen, hb, h⟩)
        · rename_i hb
          have hb' := Bool.eq_false_iff.mpr hb
          split at h
          · split at h
            · exact .inr (.inr (.inr (.inl ⟨hen, hb', h⟩)))
            · exact .inr (.inr (.inl ⟨hen, hb', by cases h; rfl⟩))
          · rename_i w rest hc
            split at h
            · exact .inr (.inr (.inr (.inl ⟨hen, hb', h⟩)))
            · exact .inr (.inr (.inr (.inr ⟨hen, hb', w, rest, hc, h⟩)))
      · rename_i hen
        exact .inl ⟨Bool.eq_false_iff.mpr hen, by cases h; rfl⟩
    · simp only [hr, if_true] at h
      exact .inl ⟨rfl, by cases h; rfl⟩
  · simp [hf] at h

/-- An accepted command runs whole in the big-step grain, and from the next step on in the small-step grain. -/
theorem State.start_cases {s t : State} {i : Instr} (h : s.start i = .next t) :
    (s.grain = .big ∧ exec i s = .next t) ∨ (s.grain = .small ∧ t = s) := by
  unfold State.start at h
  cases hg : s.grain <;> simp only [hg] at h
  · exact .inl ⟨rfl, h⟩
  · exact .inr ⟨rfl, by cases h; rfl⟩

/-- A word at the port is answered ILLEGAL_CMD or accepted and started. -/
theorem State.takeCommand_cases {s t : State} {w : CmdWord} {rest : List CmdWord}
    (h : s.takeCommand w rest = .next t) :
    (∃ e, decodeCmd w = .error e ∧ t = State.raise { s with cmds := rest } .illegalCmd) ∨
      (∃ i, decodeCmd w = .ok i ∧ (State.accept { s with cmds := rest } .host w).start i = .next t) := by
  unfold State.takeCommand at h
  cases hd : decodeCmd w <;> simp only [hd] at h
  · exact .inl ⟨_, rfl, by cases h; rfl⟩
  · exact .inr ⟨_, rfl, h⟩

/-- Everything a small step of a busy block can do (R24, R123). -/
theorem State.microStep_cases {s t : State} {tu : Bool} (h : s.microStep tu = .next t) :
    (s.ph = .sClr ∧ ∃ e, decodeCmd s.latched = .error e ∧ t = s.raise .illegalCmd) ∨
      (s.ph = .sClr ∧ ∃ i item, decodeCmd s.latched = .ok i ∧ (program s i)[s.cs.toNat]? = some item
        ∧ s.startItem item = .next t) ∨
      (s.ph = .sCmd ∧ t = s.setTarget s.tOff) ∨
      (s.ph = .sSlv ∧ s.tRd = true ∧ t = s.addressForRead) ∨
      (s.ph = .sSlv ∧ s.tRd = false ∧ t = s.addressForWrite) ∨
      (s.ph = .sDat ∧ t = s.setPayload s.tVal) ∨
      (s.ph = .sGo ∧ t = s.startTransfer) ∨
      (s.ph = .sWait ∧ t = s.waitStep tu) ∨
      (s.ph = .sSmp ∧ t = s.sampleData) := by
  unfold State.microStep at h
  cases hp : s.ph <;> simp only [hp] at h
  · cases hd : decodeCmd s.latched <;> simp only [hd] at h
    · exact .inl ⟨rfl, _, rfl, by cases h; rfl⟩
    · rename_i i
      cases hi : (program s i)[s.cs.toNat]? <;> simp only [hi] at h
      · cases h
      · exact .inr (.inl ⟨rfl, _, _, rfl, hi, h⟩)
  · exact .inr (.inr (.inl ⟨rfl, by cases h; rfl⟩))
  · cases hr : s.tRd <;> simp only [hr, Bool.false_eq_true, if_false, if_true] at h
    · exact .inr (.inr (.inr (.inr (.inl ⟨rfl, rfl, by cases h; rfl⟩))))
    · exact .inr (.inr (.inr (.inl ⟨rfl, rfl, by cases h; rfl⟩)))
  · exact .inr (.inr (.inr (.inr (.inr (.inl ⟨rfl, by cases h; rfl⟩)))))
  · exact .inr (.inr (.inr (.inr (.inr (.inr (.inl ⟨rfl, by cases h; rfl⟩))))))
  · exact .inr (.inr (.inr (.inr (.inr (.inr (.inr (.inl ⟨rfl, by cases h; rfl⟩)))))))
  · exact .inr (.inr (.inr (.inr (.inr (.inr (.inr (.inr ⟨rfl, by cases h; rfl⟩)))))))

/-- Everything a clock step of the wait can do (R124): nothing, one more pulse counted, or the end of the wait. -/
theorem State.waitStep_cases (s : State) (tu : Bool) :
    s.waitStep tu = s ∨ s.waitStep tu = { s with wCnt := s.wCnt + 1 }
      ∨ s.waitStep tu = State.endWait { s with wCnt := s.wCnt + 1 } := by
  unfold State.waitStep
  cases tu
  · exact .inl rfl
  · simp only [if_true]
    split
    · exact .inr (.inr rfl)
    · exact .inr (.inl rfl)

end Sys2Proof.Machine
end

