-- ==== Sys2Proof/Machine/Assembler.lean ====
section
/-! DEFINITION. The assembler syntax of R101, one line of text at a time: mnemonic in capitals, operands separated
by commas, numbers in decimal or 0x hexadecimal, the operand names, `;` comments, and the pseudo-instructions.
What R101 leaves unsaid (blanks, letters of a hexadecimal digit) is log entry 30. -/

namespace Sys2Proof.Machine

/-- A blank. -/
def isBlank (c : Char) : Bool := c == ' ' || c == '\t'

/-- A text without its leading and trailing blanks. -/
def trimBlanks (t : List Char) : List Char := ((t.dropWhile isBlank).reverse.dropWhile isBlank).reverse

/-- The parts of a text between commas. -/
def splitCommas : List Char → List (List Char)
  | [] => [[]]
  | c :: t =>
    if c = ',' then [] :: splitCommas t
    else match splitCommas t with
      | [] => [[c]]
      | p :: ps => (c :: p) :: ps

/-- The value of a digit in base 16. -/
def digitValue (c : Char) : Option Nat :=
  let n := c.toNat
  if 48 ≤ n ∧ n ≤ 57 then some (n - 48)
  else if 65 ≤ n ∧ n ≤ 70 then some (n - 55)
  else if 97 ≤ n ∧ n ≤ 102 then some (n - 87)
  else none

/-- A string of digits in a base. -/
def digitsValue (base acc : Nat) : List Char → Option Nat
  | [] => some acc
  | c :: t =>
    match digitValue c with
    | none => none
    | some d => if d < base then digitsValue base (base * acc + d) t else none

/-- A number: decimal, or hexadecimal after `0x` (R101). -/
def parseNumber : List Char → Option Nat
  | [] => none
  | [c] => digitsValue 10 0 [c]
  | c :: d :: t =>
    if c = '0' ∧ d = 'x' then (if t.isEmpty then none else digitsValue 16 0 t)
    else digitsValue 10 0 (c :: d :: t)

/-- A byte operand. -/
def parseByte (t : List Char) : Option Byte :=
  match parseNumber t with
  | none => none
  | some n => if n < 256 then some (BitVec.ofNat 8 n) else none

/-- A pin operand (R97). -/
def parsePin (t : List Char) : Option LogicalPin :=
  match parseNumber t with
  | none => none
  | some n => if n < 8 then some (Fin.ofNat 8 n) else none

/-- SET1 or SET2 (R101). -/
def parseSet (t : List Char) : Option RegSet :=
  if t = "SET1".toList then some .set1 else if t = "SET2".toList then some .set2 else none

/-- One of two names, the second for 1: IN and OUT, LO and HI (R101). -/
def parseEither (zero one t : List Char) : Option Bool :=
  if t = zero then some false else if t = one then some true else none

/-- A command with one operand. -/
def oneOperand {α : Type} (parse : List Char → Option α) (make : α → Instr) : List (List Char) → Option Instr
  | [x] => (parse x).map make
  | _ => none

/-- A command with two operands. -/
def twoOperands {α β : Type} (parse : List Char → Option α) (parse' : List Char → Option β)
    (make : α → β → Instr) : List (List Char) → Option Instr
  | [x, y] => (parse x).bind fun a => (parse' y).map (make a)
  | _ => none

/-- A command without operands. -/
def noOperand (i : Instr) (operands : List (List Char)) : Option Instr := if operands = [] then some i else none

/-- A command or pseudo-instruction from its mnemonic and its operands (R96, R101). -/
def assembleParts (mn : List Char) (operands : List (List Char)) : Option Instr :=
  if mn = "WRREG".toList then twoOperands parseByte parseByte .wrreg operands
  else if mn = "RDREG".toList then oneOperand parseByte .rdreg operands
  else if mn = "SETDIR".toList then
    twoOperands parseSet (parseEither "IN".toList "OUT".toList) .setdir operands
  else if mn = "WRBIT".toList then
    twoOperands parsePin (parseEither "LO".toList "HI".toList) .wrbit operands
  else if mn = "RDIN".toList then oneOperand parseSet .rdin operands
  else if mn = "SWOUT".toList then noOperand .swout operands
  else if mn = "SWIN".toList then noOperand .swin operands
  else if mn = "ALLHI".toList then noOperand .allhi operands
  else if mn = "ALLLO".toList then noOperand .alllo operands
  else if mn = "TICK".toList then noOperand .tick operands
  else if mn = "TOGGLE".toList then
    twoOperands parsePin (parseEither "LO".toList "HI".toList) (fun p l => (Pseudo.toggle p l).expand) operands
  else if mn = "POLL".toList then noOperand Pseudo.poll.expand operands
  else if mn = "DIRIN".toList then oneOperand parseSet (fun r => (Pseudo.dirin r).expand) operands
  else if mn = "DIROUT".toList then oneOperand parseSet (fun r => (Pseudo.dirout r).expand) operands
  else none

/-- The command on one line of text, if there is one (R101). -/
def assembleLine (line : String) : Option Instr :=
  let t := trimBlanks (line.toList.takeWhile (fun c => c != ';'))
  let mn := t.takeWhile (fun c => !isBlank c)
  let rest := trimBlanks (t.dropWhile (fun c => !isBlank c))
  assembleParts mn (if rest = [] then [] else (splitCommas rest).map trimBlanks)

end Sys2Proof.Machine
end

