-- ==== Sys2Proof/Tests/Slice0.lean ====
section
/-! SUPPORT. The model's own tests. Expected values are those of spec/ (R92, R102, 95_test_vectors.md), never the
model's. The last part shows, for every statement with hypotheses, states and operands that meet them all. -/

namespace Sys2Proof.Tests

open Sys2Proof Sys2Proof.Machine

/-! ## Helpers -/

/-- The next state of an outcome, if there is one. -/
def nextOf (o : Host.Outcome State Fault Refusal) : Option State :=
  match o with
  | .next t => some t
  | .fault _ => none
  | .refused _ => none

/-- An outcome with a next state is that next state. -/
theorem exists_next {o : Host.Outcome State Fault Refusal} (h : (nextOf o).isSome = true) : ∃ t, o = .next t := by
  cases o with
  | next t => exact ⟨t, rfl⟩
  | fault r => cases h
  | refused r => cases h

/-- An outcome whose next state is busy. -/
theorem exists_busy {o : Host.Outcome State Fault Refusal} (h : (nextOf o).map State.busy = some true) :
    ∃ t, o = .next t ∧ t.busy = true := by
  cases o with
  | next t => exact ⟨t, rfl, by simpa [nextOf] using h⟩
  | fault r => cases h
  | refused r => cases h

/-- An outcome whose next state is idle. -/
theorem exists_idle {o : Host.Outcome State Fault Refusal} (h : (nextOf o).map State.busy = some false) :
    ∃ t, o = .next t ∧ t.busy = false := by
  cases o with
  | next t => exact ⟨t, rfl, by simpa [nextOf] using h⟩
  | fault r => cases h
  | refused r => cases h

/-- An idle, enabled block with PINMAP_REF and the defaults, in a mode, with the shadows, whose reads will be
answered with the given bytes. -/
def st (m : Mode) (h0 h1 : Byte) (answers : List Byte) : State :=
  { State.reset with
    mode := m, sh0 := h0, sh1 := h1, cfg := paramsReference, en := true
    env := { Env.unspecified with answers := answers } }

/-- What an observer sees of one step: TRACE, the response, MODE and SH. -/
structure Seen where
  trace : List TraceEntry
  status : RspStatus
  data : Byte
  mode : Mode
  sh0 : Byte
  sh1 : Byte
deriving DecidableEq, Repr

/-- What is seen of the state an outcome leads to. -/
def seen (o : Host.Outcome State Fault Refusal) : Option Seen :=
  (nextOf o).map fun t => ⟨t.trace, t.rspSt, t.rspD, t.mode, t.sh0, t.sh1⟩

/-- What is seen after the word is presented to the state and one step is done. -/
def run1 (s : State) (w : CmdWord) : Option Seen := seen (step (s.presenting w))

/-- The display after the word is presented to the state and one step is done. -/
def disp1 (s : State) (w : CmdWord) : Option (PerPin DispLevel) :=
  (nextOf (step (s.presenting w))).map State.disp

/-- W(off, val) in the words of 95_test_vectors.md. -/
def tW (off val : Byte) : List TraceEntry :=
  [.pw 0x0400 0x42, .pw 0x0403 off, .pw 0x0404 0x9C, .pw 0x0405 val, .pw 0x0402 0x48, .wait 1]

/-- R(off) -> v in the words of 95_test_vectors.md. -/
def tR (off v : Byte) : List TraceEntry :=
  [.pw 0x0400 0x42, .pw 0x0403 off, .pw 0x0404 0x9D, .pw 0x0402 0x48, .wait 2, .pr 0x0405 v]

/-- A clock step with a pulse. -/
def pulse : Cycle := { Cycle.quiet with tu := true }

/-- A clock step in which TIMER raises a tick. -/
def tickCycle (first : Bool) : Cycle := { Cycle.quiet with tick := true, tickFirst := first }

/-! ## WellFormed: an ill-formed term for each check (R99, R92, R138, R33) -/

theorem test_wf_no_such_op : CmdWord.wellFormed 0x000000 = false := by decide
theorem test_wf_no_op_ff : CmdWord.wellFormed 0xFF0000 = false := by decide
theorem test_wf_rdreg_b : CmdWord.wellFormed 0x020001 = false := by decide
theorem test_wf_setdir_a : CmdWord.wellFormed 0x100200 = false := by decide
theorem test_wf_setdir_b : CmdWord.wellFormed 0x100002 = false := by decide
theorem test_wf_wrbit_a : CmdWord.wellFormed 0x110801 = false := by decide
theorem test_wf_wrbit_b : CmdWord.wellFormed 0x110702 = false := by decide
theorem test_wf_rdin_a : CmdWord.wellFormed 0x120200 = false := by decide
theorem test_wf_rdin_b : CmdWord.wellFormed 0x120001 = false := by decide
theorem test_wf_swout_b : CmdWord.wellFormed 0x200001 = false := by decide
theorem test_wf_swin_a : CmdWord.wellFormed 0x210100 = false := by decide
theorem test_wf_allhi_b : CmdWord.wellFormed 0x300080 = false := by decide
theorem test_wf_alllo_a : CmdWord.wellFormed 0x318000 = false := by decide
theorem test_wf_tick_b : CmdWord.wellFormed 0x400001 = false := by decide
theorem test_wf_wrreg_has_no_reserved_bit : CmdWord.wellFormed 0x01FFFF = true := by decide
theorem test_wf_wrbit_neighbour : CmdWord.wellFormed 0x110700 = true := by decide
theorem test_wf_port_status_byte : PortWord.wellFormed 0x1040043 = false := by decide
theorem test_wf_port_slave_byte : PortWord.wellFormed 0x104049E = false := by decide
theorem test_wf_port_trigger_byte : PortWord.wellFormed 0x1040249 = false := by decide
theorem test_wf_port_read_datum : PortWord.wellFormed 0x0040501 = false := by decide
theorem test_wf_port_read_elsewhere : PortWord.wellFormed 0x0040400 = false := by decide
theorem test_wf_port_no_such_port : PortWord.wellFormed 0x1040100 = false := by decide
theorem test_host_cannot_issue_go : Instr.hostIssuable .go = false := by decide

/-- R33: two pins at one place. -/
theorem test_pinmap_injective :
    PinMap.admissible { PinMap.reference with p7 := ⟨.set1, 0⟩ } = false := by decide
/-- R33: a pin at bit 3. -/
theorem test_pinmap_bit3 : PinMap.admissible { PinMap.reference with p7 := ⟨.set2, 3⟩ } = false := by decide
/-- R33: a pin at bit 5. -/
theorem test_pinmap_bit5 : PinMap.admissible { PinMap.reference with p0 := ⟨.set1, 5⟩ } = false := by decide
/-- R33: no pin at (SET1, 2). -/
theorem test_pinmap_needs_set1_bit2 :
    PinMap.admissible { PinMap.reference with p2 := ⟨.set2, 2⟩ } = false := by decide
/-- R34. -/
theorem test_pinmask_reference :
    pinMask PinMap.reference .set1 = 0xD7 ∧ pinMask PinMap.reference .set2 = 0x03 := by decide

/-! ## Decoding: words written out from R96, R102 and R92 -/

theorem test_decode_wrreg : (decodeCmd 0b00000001_00010001_01011010).toOption = some (.wrreg 0x11 0x5A) := by decide
theorem test_decode_rdreg : (decodeCmd 0b00000010_00010010_00000000).toOption = some (.rdreg 0x12) := by decide
theorem test_decode_setdir : (decodeCmd 0b00010000_00000001_00000001).toOption = some (.setdir .set2 true) := by decide
theorem test_decode_wrbit : (decodeCmd 0b00010001_00000111_00000001).toOption = some (.wrbit 7 true) := by decide
theorem test_decode_rdin : (decodeCmd 0b00010010_00000001_00000000).toOption = some (.rdin .set2) := by decide
theorem test_decode_swout : (decodeCmd 0b00100000_00000000_00000000).toOption = some .swout := by decide
theorem test_decode_swin : (decodeCmd 0b00100001_00000000_00000000).toOption = some .swin := by decide
theorem test_decode_allhi : (decodeCmd 0b00110000_00000000_00000000).toOption = some .allhi := by decide
theorem test_decode_alllo : (decodeCmd 0b00110001_00000000_00000000).toOption = some .alllo := by decide
theorem test_decode_tick : (decodeCmd 0b01000000_00000000_00000000).toOption = some .tick := by decide
theorem test_decode_st_clr :
    (decodePort 0b1_0000010000000000_01000010).toOption = some .stClr := by decide
theorem test_decode_set_cmd :
    (decodePort 0b1_0000010000000011_00100001).toOption = some (.setCmd 0x21) := by decide
theorem test_decode_set_slv_w :
    (decodePort 0b1_0000010000000100_10011100).toOption = some .setSlvW := by decide
theorem test_decode_set_slv_r :
    (decodePort 0b1_0000010000000100_10011101).toOption = some .setSlvR := by decide
theorem test_decode_set_data :
    (decodePort 0b1_0000010000000101_11111111).toOption = some (.setData 0xFF) := by decide
theorem test_decode_go :
    (decodePort 0b1_0000010000000010_01001000).toOption = some .go := by decide
theorem test_decode_get_data :
    (decodePort 0b0_0000010000000101_00000000).toOption = some .getData := by decide
/-- R92: a write of 0x00 to DATA and a read of DATA differ in bit 24 alone. -/
theorem test_decode_write_is_no_read : (decodePort 0x1040500).toOption = some (.setData 0x00) := by decide
/-- E1 to E8 of 95_test_vectors.md. -/
theorem test_decode_illegal :
    [0x000000, 0x110801, 0x110702, 0x100200, 0x020001, 0x120001, 0x210100, 0x400001].map
      (fun w => (decodeCmd w).toOption) = [none, none, none, none, none, none, none, none] := by decide
theorem test_table_word_command : decodeTableWord 24 0x110700 = some (.wrbit 7 false) := by decide
theorem test_table_word_port : decodeTableWord 32 0x0040500 = some .getData := by decide
theorem test_table_word_too_wide : decodeTableWord 32 0x3040500 = none := by decide

/-! ## The assembler (R101, R157) -/

theorem test_assemble_wrbit : assembleLine "WRBIT 2, HI ; pin 2" = some (.wrbit 2 true) := by decide
theorem test_assemble_wrreg : assembleLine "WRREG 0x11, 90" = some (.wrreg 0x11 0x5A) := by decide
theorem test_assemble_dirout : assembleLine "DIROUT SET2" = some (.setdir .set2 true) := by decide
theorem test_assemble_poll : assembleLine "POLL" = some .tick := by decide
theorem test_assemble_refuses_pin8 : assembleLine "TOGGLE 8, LO" = none := by decide

/-! ## The commands: vectors of 95_test_vectors.md -/

/-- Q1. -/
theorem test_wrreg : run1 (st .output 0x04 0x01 []) 0x01115A =
    some ⟨tW 0x11 0x5A, .ok, 0x00, .output, 0x04, 0x01⟩ := by decide
/-- Q6: the guard does not apply, SH is not updated. -/
theorem test_wrreg_input_mode : run1 (st .input 0 0 []) 0x0111FF =
    some ⟨tW 0x11 0xFF, .ok, 0x00, .input, 0, 0⟩ := by decide
/-- Q4. -/
theorem test_rdreg : run1 (st .output 0 0 [0xA5]) 0x021200 =
    some ⟨tR 0x12 0xA5, .ok, 0xA5, .output, 0, 0⟩ := by decide
/-- Program 3, step 2: ENV_REF returns what the chip register holds. -/
theorem test_rdreg_reference :
    run1 { st .input 0 0 [0x77] with env := ⟨.reference, [], [(0x11, 0x5A)], [0x77], 0, [], 0, 0⟩ } 0x021100 =
      some ⟨tR 0x11 0x5A, .ok, 0x5A, .input, 0, 0⟩ := by decide
/-- G1. -/
theorem test_setdir_in : run1 (st .output 0xD7 0x03 []) 0x100000 =
    some ⟨tW 0x10 0x00, .ok, 0x00, .output, 0xD7, 0x03⟩ := by decide
/-- G4. -/
theorem test_setdir_out : run1 (st .input 0 0 []) 0x100101 =
    some ⟨tW 0x20 0xFF, .ok, 0x00, .input, 0, 0⟩ := by decide
/-- G23: bits 3 and 5 are carried unchanged. -/
theorem test_wrbit_low : run1 (st .output 0xFF 0x00 []) 0x110300 =
    some ⟨tW 0x11 0xEF, .ok, 0x00, .output, 0xEF, 0x00⟩ := by decide
/-- G12: the second set. -/
theorem test_wrbit_high : run1 (st .output 0x00 0x00 []) 0x110701 =
    some ⟨tW 0x21 0x02, .ok, 0x00, .output, 0x00, 0x02⟩ := by decide
/-- G27. -/
theorem test_rdin_set1 : run1 (st .output 0 0 [0xFF]) 0x120000 =
    some ⟨tR 0x12 0xFF, .ok, 0xFF, .output, 0, 0⟩ := by decide
/-- G28. -/
theorem test_rdin_set2 : run1 (st .input 0 0 [0x28]) 0x120100 =
    some ⟨tR 0x22 0x28, .ok, 0x28, .input, 0, 0⟩ := by decide
/-- M2: shadows kept. -/
theorem test_swout : run1 (st .output 0x04 0x01 []) 0x200000 =
    some ⟨tW 0x10 0xFF ++ tW 0x20 0xFF, .ok, 0x01, .output, 0x04, 0x01⟩ := by decide
/-- M6: the display is blanked. -/
theorem test_swout_blanks : disp1 { st .input 0 0 [] with disp := PerPin.all .high } 0x200000 =
    some (PerPin.all .blank) := by decide
/-- M4. -/
theorem test_swin : run1 (st .output 0xD7 0x03 []) 0x210000 =
    some ⟨tW 0x10 0 ++ tW 0x20 0 ++ tW 0x10 0xFF ++ tW 0x20 0xFF ++ tW 0x11 0 ++ tW 0x21 0, .ok, 0x00, .input, 0, 0⟩ := by
  decide
/-- M5: the display is left alone. -/
theorem test_swin_keeps_display : disp1 { st .input 0 0 [] with disp := PerPin.all .high } 0x210000 =
    some (PerPin.all .high) := by decide
/-- G31. -/
theorem test_allhi_ff : run1 { st .output 0 0 [] with cfg := ⟨PinMap.reference, true, 0xFF, 0xFF⟩ } 0x300000 =
    some ⟨tW 0x11 0xFF ++ tW 0x21 0xFF, .ok, 0x00, .output, 0xFF, 0xFF⟩ := by decide
/-- G35: unguarded in Input mode. -/
theorem test_allhi_unguarded :
    run1 { st .input 0 0 [] with cfg := { paramsReference with allGuarded := false } } 0x300000 =
      some ⟨tW 0x11 0xD7 ++ tW 0x21 0x03, .ok, 0x00, .input, 0xD7, 0x03⟩ := by decide
/-- G32. -/
theorem test_alllo : run1 (st .output 0xD7 0x03 []) 0x310000 =
    some ⟨tW 0x11 0x00 ++ tW 0x21 0x00, .ok, 0x00, .output, 0, 0⟩ := by decide
/-- G34. -/
theorem test_alllo_guarded : run1 (st .input 0 0 []) 0x310000 =
    some ⟨[], .invalidOp, 0x00, .input, 0, 0⟩ := by decide
/-- M11. -/
theorem test_tick_levels : disp1 (st .input 0 0 [0x5A, 0x02]) 0x400000 =
    some ⟨.low, .high, .low, .high, .high, .low, .low, .high⟩ := by decide
/-- M7. -/
theorem test_tick_output_mode : run1 (st .output 0x04 0 [0x5A, 0x02]) 0x400000 =
    some ⟨[], .ok, 0x00, .output, 0x04, 0⟩ := by decide
/-- G25 and E10. -/
theorem test_wrbit_rejected : run1 (st .input 0 0 []) 0x110700 =
    some ⟨[], .invalidOp, 0x00, .input, 0, 0⟩ := by decide
/-- E9: the decoder runs before the guard. -/
theorem test_illegal_word_in_input_mode : run1 (st .input 0 0 []) 0x110801 =
    some ⟨[], .illegalCmd, 0x00, .input, 0, 0⟩ := by decide
/-- M10, on the pins of R36: pin p at bits 2p+1..2p, 0b11 High, 0b10 Low (R25). -/
theorem test_disp_pins :
    (nextOf (step ((st .input 0 0 [0xA5, 0x01]).presenting 0x400000))).map State.dispOut =
      some 0b10_11_11_10_10_11_10_11 := by decide

/-- R72 and R255: a transfer may land, on any register, in a clock step of the wait. -/
theorem test_transfer_lands_late :
    (nextOf (step { (st .output 0 0 []).inTransaction false 0x11 0x5A .sWait with
        inputs := [{ Cycle.quiet with chip := [(0x11, 0x5A), (0x33, 0x01)] }] })).map
      (fun t => (t.env.chipByte 0x11, t.env.chipByte 0x33, t.trace)) = some (0x5A, 0x01, []) := by decide

/-! ## The micro-operations, from R129 to R135 -/

/-- The last entry of TRACE and PH after a micro-operation ran from the state in which it is fetched. -/
def microSeen (nbits w : Nat) : Option (Option TraceEntry × Phase) :=
  (nextOf (step ((st .input 0 0 [0xA5]).withFetchWord nbits w))).map fun t => (t.trace.getLast?, t.ph)

theorem test_st_clr : microSeen 32 0x1040042 = some (some (.pw 0x0400 0x42), .sCmd) := by decide
theorem test_set_cmd : microSeen 32 0x1040321 = some (some (.pw 0x0403 0x21), .sSlv) := by decide
theorem test_set_slv_w : microSeen 32 0x104049C = some (some (.pw 0x0404 0x9C), .sDat) := by decide
theorem test_set_slv_r : microSeen 32 0x104049D = some (some (.pw 0x0404 0x9D), .sGo) := by decide
theorem test_set_data : microSeen 32 0x1040504 = some (some (.pw 0x0405 0x04), .sGo) := by decide
theorem test_go : microSeen 32 0x1040248 = some (some (.pw 0x0402 0x48), .sWait) := by decide
theorem test_get_data : microSeen 32 0x0040500 = some (some (.pr 0x0405 0xA5), .sClr) := by decide

/-! ## Bit arithmetic (95_test_vectors.md 2.2, R155, R156) -/

theorem test_bit_laws :
    setBit 0x00 7 = 0x80 ∧ setBit 0x80 7 = 0x80 ∧ clrBit 0xFF 0 = 0xFE ∧ clrBit 0xFE 0 = 0xFE
      ∧ clrBit (setBit 0x51 2) 2 = 0x51 ∧ clrBit (setBit 0x55 2) 2 = 0x51 := by decide
theorem test_bit_high :
    bitHigh 0x80 7 = true ∧ bitHigh 0x7F 7 = false ∧ bitHigh 0x28 3 = true ∧ bitHigh 0x28 4 = false
      ∧ bitHigh 0x01 0 = true := by decide

/-! ## Witnesses: for each statement with hypotheses, states and operands that meet them all -/

/-- A state whose next clock step takes the listed inputs and in which HOST holds the listed words. -/
def waiting (s : State) (words : List CmdWord) (cs : List Cycle) : State := { s with cmds := words, inputs := cs }

/-- A block in mid-command: the word is latched, the sequencer stands at CS and PH. -/
def midway (s : State) (w : CmdWord) (cs : BitVec 4) (ph : Phase) (rd : Bool) : State :=
  { s with
    grain := .small, busy := true, cs := cs, ph := ph, tRd := rd
    cOp := CmdWord.op w, cA := CmdWord.a w, cB := CmdWord.b w }

/-- The same with TRACE as it then stands, inside the first transaction. -/
def midTrace (s : State) (w : CmdWord) (ph : Phase) (rd : Bool) : State :=
  let t := midway s w 0 ph rd
  { t with trace := t.partialEntries }

theorem witness_EncodeOfDecodeIsIdentity :
    decode (.cmd 0x110701) = .ok (.wrbit 7 true) ∧ decode (.port 0x0040500) = .ok .getData := ⟨rfl, rfl⟩

theorem witness_DecoderAcceptsExactlyWellFormedWords :
    decodeCmd 0x110701 = .ok (.wrbit 7 true) ∧ decodePort 0x0040500 = .ok .getData := ⟨rfl, rfl⟩

/-- An idle block of the given grain in whose coming clock step a tick is raised, in either grain, and goes first or not;
HOST holds the words. -/
def ticking (g : Grain) (first : Bool) (words : List CmdWord) : State :=
  waiting { st .output 0 0 [] with pollEn := true, pollCnt := 199, grain := g } words
    [{ pulse with tickFirst := first }]

/-- The word 0x110701 waits, in both grains; a tick of the same step is raised and does not go first. -/
theorem witness_StepRunsPresentedCommand :
    ∀ g : Grain, ∃ (s t : State) (w : CmdWord) (rest : List CmdWord) (i : Instr),
      t = s.beginCycle.levels s.cycle ∧ s.cycle.foreign = false ∧ s.cycle.rst = false ∧ t.en = true
        ∧ t.busy = false ∧ t.grain = g ∧ t.cmds = w :: rest ∧ t.tickRaised s.cycle = true
        ∧ s.cycle.tickFirst = false ∧ decodeCmd w = .ok i :=
  fun g => ⟨ticking g false [0x110701], _, 0x110701, [], .wrbit 7 true,
    rfl, rfl, rfl, rfl, rfl, rfl, rfl, by cases g <;> decide, rfl, rfl⟩

/-- In both grains, a tick with no word waiting, and a tick that goes before a waiting word. -/
theorem witness_StepRunsTakenTick : ∀ g : Grain,
    (∃ s t : State, t = s.beginCycle.levels s.cycle ∧ s.cycle.foreign = false ∧ s.cycle.rst = false ∧ t.en = true
        ∧ t.busy = false ∧ t.grain = g ∧ t.tickRaised s.cycle = true ∧ t.cmds = [])
      ∧ ∃ s t : State, t = s.beginCycle.levels s.cycle ∧ s.cycle.foreign = false ∧ s.cycle.rst = false ∧ t.en = true
        ∧ t.busy = false ∧ t.grain = g ∧ t.tickRaised s.cycle = true ∧ t.cmds = [0x200000]
        ∧ s.cycle.tickFirst = true :=
  fun g => ⟨⟨ticking g false [], _, rfl, rfl, rfl, rfl, rfl, rfl, by cases g <;> decide, rfl⟩,
    ⟨ticking g true [0x200000], _, rfl, rfl, rfl, rfl, rfl, rfl, by cases g <;> decide, rfl, rfl⟩⟩

/-- Every phase in which a micro-operation or the wait runs, in both directions, of WRREG 0x11, 0x5A and RDREG 0x12. -/
theorem witness_StepRunsPortOperation :
    ∀ x ∈ [(Phase.sCmd, false), (.sCmd, true), (.sSlv, false), (.sSlv, true), (.sDat, false), (.sGo, false),
        (.sGo, true), (.sWait, false), (.sWait, true), (.sSmp, true)],
      ∃ s t : State, t = (s.beginCycle.levels s.cycle).countPoll s.cycle ∧ s.cycle.foreign = false
        ∧ s.cycle.rst = false ∧ t.en = true ∧ t.busy = true ∧ t.ph = x.1 ∧ t.tRd = x.2 :=
  fun x _ => ⟨midway (st .output 0 0 []) (if x.2 then 0x021200 else 0x01115A) 0 x.1 x.2, _, rfl, rfl, rfl, rfl, rfl,
    rfl, rfl⟩

/-- At S_CLR the second transaction of ALLHI, and the second of TICK at CS = 3. -/
theorem witness_StepRunsPortOperation_items :
    (∃ s t : State, t = (s.beginCycle.levels s.cycle).countPoll s.cycle ∧ s.cycle.foreign = false
        ∧ s.cycle.rst = false ∧ t.en = true ∧ t.busy = true ∧ t.ph = .sClr ∧ decodeCmd t.latched = .ok .allhi
        ∧ (program t .allhi)[t.cs.toNat]? = some (.write 0x21 0x03))
      ∧ (∃ s t : State, t = (s.beginCycle.levels s.cycle).countPoll s.cycle ∧ s.cycle.foreign = false
        ∧ s.cycle.rst = false ∧ t.en = true ∧ t.busy = true ∧ t.ph = .sClr ∧ decodeCmd t.latched = .ok .tick
        ∧ (program t .tick)[t.cs.toNat]? = some (.read 0x22)) :=
  ⟨⟨midway (st .output 0 0 []) 0x300000 3 .sClr false, _, rfl, rfl, rfl, rfl, rfl, rfl, rfl, by decide⟩,
    ⟨midway (st .input 0 0 []) 0x400000 3 .sClr true, _, rfl, rfl, rfl, rfl, rfl, rfl, rfl, by decide⟩⟩

theorem witness_PlacedWordIsRunNext :
    decodeCmd 0x400000 = .ok .tick ∧ decodePort 0x1040248 = .ok .go := ⟨rfl, rfl⟩

/-- Each phase of the three clauses about phases. -/
theorem witness_MicroOperationsWriteTheirPort : ∀ ph ∈ [Phase.sCmd, .sSlv, .sDat], ∃ s : State, s.ph = ph :=
  fun ph _ => ⟨midway (st .output 0 0 []) 0x01115A 0 ph false, rfl⟩

theorem witness_MicroOperationsAreSingleStepsThatCannotFail :
    Instr.hostIssuable .getData = false ∧ decodeCmd 0x200000 = .ok .swout := ⟨rfl, rfl⟩

/-- A reset, SWOUT and SWIN each change MODE. -/
theorem witness_ModeChangesOnlyThroughItsTwoTransitions :
    (nextOf (step (waiting (st .output 0 0 []) [] [{ Cycle.quiet with rst := true }]))).map State.mode = some .input
      ∧ (nextOf (step ((st .input 0 0 []).presenting 0x200000))).map State.mode = some .output
      ∧ (nextOf (step ((st .output 0 0 []).presenting 0x210000))).map State.mode = some .input :=
  ⟨by decide, by decide, by decide⟩

/-- WRBIT, ALLHI, ALLLO and SWIN each change SH, from 0x01 and 0x01. -/
theorem witness_ShadowsChange :
    (nextOf (step ((st .output 1 1 []).presenting 0x110701))).map State.sh1 = some 0x03
      ∧ (nextOf (step ((st .output 1 1 []).presenting 0x300000))).map State.sh0 = some 0xD7
      ∧ (nextOf (step ((st .output 1 1 []).presenting 0x310000))).map State.sh0 = some 0x00
      ∧ (nextOf (step ((st .output 1 1 []).presenting 0x210000))).map State.sh0 = some 0x00 :=
  ⟨by decide, by decide, by decide, by decide⟩

/-- TICK and SWOUT each change DISP, from High on every pin. -/
theorem witness_DisplayChanges :
    disp1 { st .input 0 0 [0, 0] with disp := PerPin.all .high } 0x400000 = some (PerPin.all .low)
      ∧ disp1 { st .input 0 0 [] with disp := PerPin.all .high } 0x200000 = some (PerPin.all .blank) :=
  ⟨by decide, by decide⟩

/-- A write's wait and a read's, with W_CNT cleared, and with any other count. -/
theorem witness_WaitEndsOnThePulseAfterItsUnits : ∀ (rd : Bool) (n : BitVec 2), ∃ s : State,
    s.ph = .sWait ∧ s.wCnt = n ∧ s.tRd = rd :=
  fun rd n => ⟨{ midway (st .output 0 0 []) (if rd then 0x021200 else 0x01115A) 0 .sWait rd with wCnt := n },
    rfl, rfl, rfl⟩

theorem witness_WrbitInOutputModeWritesTheShadowByte : (st .output 0xFF 0x03 []).mode = .output := rfl

/-- WRBIT with either guard, ALLHI and ALLLO with ALL_GUARDED. -/
theorem witness_PinWritesAreRejectedInInputMode : ∀ i ∈ [Instr.wrbit 0 true, .wrbit 7 false, .allhi, .alllo],
    (st .input 0 0 []).mode = .input
      ∧ ((∃ p h, i = .wrbit p h) ∨ ((st .input 0 0 []).cfg.allGuarded = true ∧ (i = .allhi ∨ i = .alllo))) := by
  intro i hi
  simp only [List.mem_cons, List.not_mem_nil, or_false] at hi
  rcases hi with rfl | rfl | rfl | rfl
  · exact ⟨rfl, .inl ⟨0, true, rfl⟩⟩
  · exact ⟨rfl, .inl ⟨7, false, rfl⟩⟩
  · exact ⟨rfl, .inr ⟨rfl, .inl rfl⟩⟩
  · exact ⟨rfl, .inr ⟨rfl, .inr rfl⟩⟩

/-- Output mode, and Input mode without the guard: for ALLHI and ALLLO. -/
theorem witness_AllhiAndAllloRun :
    (st .output 0 0 []).mode = .output
      ∧ { st .input 0 0 [] with cfg := { paramsReference with allGuarded := false } }.cfg.allGuarded = false :=
  ⟨rfl, rfl⟩

theorem witness_AllloTwiceRepeatsTheSameTwoWrites : ∃ s t u : State,
    s.mode = .output ∧ exec .alllo s = .next t ∧ exec .alllo t = .next u :=
  ⟨st .output 0xD7 0x03 [], _, _, rfl, rfl, rfl⟩

theorem witness_BitLawsOfTheShadow : (0 : Fin 8) ≠ 7 := by decide

/-- The two shadows of S-P3: the bit was 0, and the bit was 1. -/
theorem witness_PinRoundTripRestoresIffBitWasZero : ∀ old ∈ [(0x51 : Byte), 0x55], ∃ s t u : State,
    s.mode = .output ∧ s.sh0 = old ∧ exec (.wrbit 2 true) s = .next t ∧ exec (.wrbit 2 false) t = .next u :=
  fun old _ => ⟨st .output old 0 [], _, _, rfl, rfl, rfl, rfl⟩

theorem witness_AdmissiblePinMapsAvoidBitsThreeAndFive : PinMap.reference.admissible = true := by decide

/-- Under the oracle and in ENV_REF. -/
theorem witness_SwinLeavesDirectionsAtOutput : ∀ kind : EnvKind, ∃ s t : State,
    s.env.kind = kind ∧ exec .swin s = .next t :=
  fun kind => ⟨{ st .output 0xD7 0x03 [] with env := { Env.unspecified with kind := kind } }, _, rfl, rfl⟩

/-- HOST's TICK and TIMER's, in each mode. -/
theorem witness_Tick : ∀ (m : Mode) (src : Source),
    { st m 0 0 [] with cSrc := src }.mode = m ∧ { st m 0 0 [] with cSrc := src }.cSrc = src :=
  fun _ _ => ⟨rfl, rfl⟩

/-- A command of each kind that the clauses leave out: one writes MODE, one SH, one DISP, one none of them. -/
theorem witness_RegistersHaveOnlyTheirNamedWriters : ∀ i ∈ [Instr.swout, .swin, .wrbit 7 true, .allhi, .tick, .rdreg 0x12],
    ∃ s t : State, exec i s = .next t := by
  intro i hi
  refine ⟨st .output 0 0 [], exists_next ?_⟩
  revert i
  decide

theorem witness_GuardedInputModeKeepsTheShadows : ∃ s t : State,
    s.mode = .input ∧ s.cfg.allGuarded = true ∧ exec .allhi s = .next t ∧ Instr.allhi ≠ .swin :=
  ⟨st .input 0x12 0x34 [], _, rfl, rfl, rfl, by decide⟩

/-- Every command in each mode, with the guard and without it. -/
theorem witness_PortOperationCountsPerCommand :
    ∀ m ∈ [Mode.input, .output], ∀ guarded : Bool,
      ∀ i ∈ [Instr.wrreg 0 0, .rdreg 0, .setdir .set1 true, .wrbit 0 true, .rdin .set2, .swout, .swin, .allhi, .alllo,
        .tick], ∃ s t : State, s.mode = m ∧ s.cfg.allGuarded = guarded ∧ exec i s = .next t := by
  intro m hm guarded i hi
  have h : (nextOf (exec i { st m 0 0 [] with cfg := { paramsReference with allGuarded := guarded } })).isSome = true := by
    revert m guarded i
    decide
  exact ⟨_, (exists_next h).choose, rfl, rfl, (exists_next h).choose_spec⟩

/-- E9: an ill-formed word in Input mode, beside a tick that does not go first. -/
theorem witness_IllegalWordIsAnsweredWithoutEffect : ∃ (s t : State) (w : CmdWord) (rest : List CmdWord),
    t = s.beginCycle.levels s.cycle ∧ s.cycle.foreign = false ∧ s.cycle.rst = false ∧ t.en = true
      ∧ t.busy = false ∧ t.cmds = w :: rest ∧ t.tickRaised s.cycle = true ∧ s.cycle.tickFirst = false
      ∧ (CodeWord.cmd w).wellFormed = false :=
  ⟨waiting { st .input 0 0 [] with pollEn := true } [0x110801] [tickCycle false], _, 0x110801, [],
    rfl, rfl, rfl, rfl, rfl, rfl, by decide, rfl, by decide⟩

/-- A word accepted, well formed or not; and a tick taken. -/
theorem witness_EveryAcceptedWordIsAnsweredOnce : ∀ x ∈ [([0x021200], false), ([0x110801], false), ([], true)],
    ∃ s t u : State, t = s.beginCycle.levels s.cycle ∧ s.cycle.foreign = false ∧ s.cycle.rst = false ∧ t.en = true
      ∧ t.busy = false ∧ t.grain = .big ∧ t.cmds = x.1 ∧ t.tickRaised s.cycle = x.2 ∧ step s = .next u := by
  intro x hx
  simp only [List.mem_cons, List.not_mem_nil, or_false] at hx
  rcases hx with rfl | rfl | rfl
  · exact ⟨waiting (st .input 0 0 []) [0x021200] [], _, _, rfl, rfl, rfl, rfl, rfl, rfl, rfl, by decide, rfl⟩
  · exact ⟨waiting (st .input 0 0 []) [0x110801] [], _, _, rfl, rfl, rfl, rfl, rfl, rfl, rfl, by decide, rfl⟩
  · exact ⟨waiting { st .input 0 0 [] with pollEn := true } [] [tickCycle false], _, _, rfl, rfl, rfl, rfl, rfl, rfl,
      rfl, by decide, rfl⟩

/-- Idle with a word waiting, and in mid-command. -/
theorem witness_BlockIsInertWithoutEnable : ∀ busy : Bool, ∃ s t : State,
    t = s.beginCycle.levels s.cycle ∧ s.cycle.foreign = false ∧ s.cycle.rst = false ∧ t.en = false ∧ t.busy = busy :=
  fun busy => ⟨{ waiting (st .output 0 0 []) [0x200000] [pulse] with en := false, busy := busy }, _, rfl, rfl, rfl,
    rfl, rfl⟩

/-- LOADER reports a failure; and it has reported one, and reports Ok now. -/
theorem witness_FailedLoadKeepsTheBlockDisabled :
    (∃ s t : State, s.load = none ∧ s.cycle.load = some .dllNotFound ∧ LoadStatus.dllNotFound ≠ .ok
        ∧ step s = .next t)
      ∧ ∃ s t : State, s.load = some .initializeError ∧ s.en = false ∧ s.cycle.load = some .ok ∧ step s = .next t :=
  ⟨⟨waiting State.reset [0x200000] [{ Cycle.quiet with load := some .dllNotFound }], _, rfl, rfl, by decide, rfl⟩,
    ⟨{ waiting State.reset [0x200000] [{ Cycle.quiet with load := some .ok }] with load := some .initializeError }, _,
      rfl, rfl, rfl, rfl⟩⟩

/-- The first report Ok; a release; a step after a release; a step with neither, after a report and before one. -/
theorem witness_EnableFollowsLoaderAndRelease :
    (∃ s t : State, step s = .next t ∧ s.load = none ∧ s.cycle.load = some .ok ∧ s.released = false
        ∧ s.cycle.release = false)
      ∧ (∃ s t : State, step s = .next t ∧ s.cycle.release = true ∧ s.en = true)
      ∧ (∃ s t : State, step s = .next t ∧ s.released = true ∧ s.en = false)
      ∧ (∃ s t : State, step s = .next t ∧ s.load ≠ none ∧ s.cycle.release = false)
      ∧ ∃ s t : State, step s = .next t ∧ s.cycle.load = none ∧ s.cycle.release = false
          ∧ s.cycle.pollEn = some true :=
  ⟨⟨waiting State.reset [] [{ Cycle.quiet with load := some .ok }], _, rfl, rfl, rfl, rfl, rfl⟩,
    ⟨waiting (st .input 0 0 []) [] [{ Cycle.quiet with release := true }], _, rfl, rfl, rfl⟩,
    ⟨{ State.reset with released := true }, _, rfl, rfl, rfl⟩,
    ⟨{ st .input 0 0 [] with load := some .ok }, _, rfl, by decide, rfl⟩,
    ⟨waiting State.reset [] [{ Cycle.quiet with pollEn := some true }], _, rfl, rfl, rfl, rfl⟩⟩

/-- In the small-step grain, in a clock step in which POLL_CNT raises a tick. -/
theorem witness_TickWhileBusyIsLost : ∃ s t : State,
    s.busy = true ∧ s.grain = .small ∧ (s.beginCycle.levels s.cycle).tickRaised s.cycle = true ∧ step s = .next t :=
  ⟨waiting { midway (st .output 0 0 []) 0x200000 0 .sGo false with pollEn := true, pollCnt := 199 } [] [pulse], _,
    rfl, rfl, by decide, rfl⟩

/-- At the last count of the period, in both grains, with a pulse and without; and with an enable low. -/
theorem witness_PollCounterCountsModuloThePeriod : ∀ (g : Grain) (tu : Bool),
    (∃ (s : State) (c : Cycle), s.pollCnt.toNat < 200 ∧ s.pollCnt = 199 ∧ s.en = true ∧ s.pollEn = true ∧ c.tu = tu
        ∧ s.grain = g)
      ∧ ∃ s : State, s.pollCnt.toNat < 200 ∧ s.pollCnt = 199 ∧ s.pollEn = false ∧ s.grain = g :=
  fun g tu =>
    ⟨⟨{ st .input 0 0 [] with pollEn := true, pollCnt := 199, grain := g }, { Cycle.quiet with tu := tu },
      (by decide : (199#8).toNat < 200), rfl, rfl, rfl, rfl, rfl⟩,
      ⟨{ st .input 0 0 [] with pollCnt := 199, grain := g }, (by decide : (199#8).toNat < 200), rfl, rfl, rfl⟩⟩

/-- A step that responds and one that does not; a word that is accepted, and one that a tick goes before. -/
theorem witness_OutputEncodings :
    (∃ s t : State, step s = .next t ∧ s.cycle.rst = false ∧ t.rspValid = true)
      ∧ (∃ s t : State, step s = .next t ∧ s.cycle.rst = false ∧ t.rspValid = false)
      ∧ ∀ first : Bool, ∃ (s t u : State) (w : CmdWord) (rest : List CmdWord),
        t = s.beginCycle.levels s.cycle ∧ t.cmds = w :: rest ∧ step s = .next u ∧ s.cycle.rst = false
          ∧ s.beginCycle.cmdReady s.cycle = !first :=
  ⟨⟨(st .input 0 0 []).presenting 0x110801, _, rfl, rfl, rfl⟩, ⟨st .input 0 0 [], _, rfl, rfl, rfl⟩,
    fun first => by
      have h : (nextOf (step (ticking .small first [0x200000]))).isSome = true := by cases first <;> decide
      obtain ⟨u, hu⟩ := exists_next h
      exact ⟨ticking .small first [0x200000], _, u, 0x200000, [], rfl, rfl, hu, rfl, by cases first <;> decide⟩⟩

theorem witness_ForeignAccessIsRefused : ∃ s : State, s.cycle.foreign = true :=
  ⟨waiting (st .input 0 0 []) [] [{ Cycle.quiet with foreign := true }], rfl⟩

/-- Idle, and in mid-transaction. -/
theorem witness_ResetInputResetsTheBlockAlone : ∀ busy : Bool, ∃ s t : State,
    t = s.beginCycle.levels s.cycle ∧ s.cycle.foreign = false ∧ s.cycle.rst = true ∧ s.busy = busy :=
  fun busy => ⟨{ waiting (st .output 0xD7 0x03 []) [] [{ Cycle.quiet with rst := true }] with busy := busy }, _, rfl,
    rfl, rfl, rfl⟩

/-- A state in the middle of WRREG 0x11, 0x5A, about to trigger, meets the invariants of the small-step grain and
steps; so does an idle state that is about to accept. -/
def halfway : State := { midTrace (st .output 0xD7 0x03 []) 0x01115A .sGo false with pollEn := true }

theorem witness_LegalUpcStepsToLegalUpc : UpcInv halfway ∧ halfway.cycle.foreign = false :=
  ⟨⟨fun h => (nomatch h), fun _ => ⟨.wrreg 0x11 0x5A, .write 0x11 0x5A, rfl, rfl, fun _ => rfl⟩⟩, rfl⟩

theorem witness_LegalUpcStepsToLegalUpc_idle :
    UpcInv (waiting (st .input 0 0 []) [0x210000] []) ∧ (waiting (st .input 0 0 []) [0x210000] []).cycle.foreign = false :=
  ⟨⟨fun _ => ⟨rfl, rfl⟩, fun h => nomatch h⟩, rfl⟩

/-- For both statements about TRACE. -/
theorem witness_TraceInv : TraceInv halfway ∧ ∃ t, step halfway = .next t :=
  ⟨⟨fun h => (nomatch h), fun h => (nomatch h), fun h => (nomatch h), [], rfl⟩, exists_next (by decide)⟩

/-- TRACE after the end of a command: idle, and a whole transaction. -/
theorem witness_TraceInv_idle : ∃ s t : State, TraceInv s ∧ step s = .next t ∧ t.busy = false :=
  ⟨(st .input 0 0 [0xA5]).presenting 0x021200, _,
    ⟨fun _ => rfl, fun h => (nomatch h), fun h => (nomatch h), [], rfl⟩, rfl, rfl⟩

/-- In Output mode, at the start of a TICK. -/
theorem witness_DisplayStaysBlankInOutputMode : ∃ s t : State, DisplayInv s ∧ s.mode = .output ∧ step s = .next t :=
  ⟨midway (st .output 0 0 []) 0x400000 0 .sClr false, _, ⟨fun _ => rfl, fun _ _ _ => ⟨rfl, rfl⟩⟩, rfl, rfl⟩

theorem witness_ShadowsKeepToMappedBits : ∃ s t : State, ShadowMaskInv s ∧ step s = .next t :=
  ⟨(st .output 0xD7 0x03 []).presenting 0x300000, _, by intro r; cases r <;> decide, rfl⟩

/-- WRBIT 2, LO after the block wrote 0xD7 to the output-data register of SET1. -/
theorem witness_ShadowsMirrorTheLastBytesWritten : ∃ s t : State, MirrorInv s ∧ step s = .next t := by
  refine ⟨{ st .output 0xD7 0x03 [] with cmds := [0x110200], trace := tW 0x11 0xD7 }, _, ⟨rfl, rfl, ?_, ?_⟩, rfl⟩
  · intro w hw v
    rcases hw with hw | ⟨c, hc, -⟩
    · obtain rfl : w = 0x110200 := by simpa using hw
      exact ⟨nofun, nofun⟩
    · exact absurd hc List.not_mem_nil
  · intro r
    cases r with
    | set1 => intro v h; exact Option.some.inj ((by decide : some (0xD7 : Byte) = _).trans h)
    | set2 => intro v h; exact nomatch (by decide : (none : Option Byte) = _).trans h

theorem witness_MemoriesKeepTheirForm : ∃ s t : State, MemoryInv s ∧ s.env.io ≠ [] ∧ step s = .next t :=
  ⟨{ halfway with env := ⟨.reference, [(0x0403, 0x11), (0x0404, 0x9C), (0x0405, 0x5A)], [(0x10, 0x00), (0x12, 0x07)],
      [], 0, [], 0, 0⟩ }, _, ⟨by decide, by decide⟩, by decide, rfl⟩

/-- At the last count, and with an enable low. -/
theorem witness_PollCounterStaysInItsPeriod :
    (∃ s t : State, PollInv s ∧ s.pollCnt = 199 ∧ s.cycle.tu = true ∧ step s = .next t)
      ∧ ∃ s t : State, PollInv s ∧ s.pollEn = false ∧ step s = .next t :=
  ⟨⟨waiting { st .input 0 0 [] with pollEn := true, pollCnt := 199 } [] [pulse], _, ⟨by decide, by decide⟩, rfl, rfl,
      rfl⟩,
    ⟨waiting (st .input 0 0 []) [] [pulse], _, ⟨by decide, by decide⟩, rfl, rfl⟩⟩

theorem witness_StepsKeepTheParameters : ∃ t, step halfway = .next t := exists_next (by decide)

/-- Two oracles that differ in every register and in the effect of the transfer about to be triggered. -/
theorem witness_BlockCannotObserveTransferFailure : ∃ (s t : State) (e : Env),
    s.env.kind = .oracle ∧ e.kind = .oracle ∧ e.answers = s.env.answers ∧ e.draws = s.env.draws
      ∧ e.effects ≠ s.env.effects ∧ step s = .next t :=
  ⟨{ halfway with env := ⟨.oracle, [(0x0404, 0x9C)], [], [0xA5], 0, [[(0x11, 0x5A)]], 0, 0⟩ }, _,
    ⟨.oracle, [(0x0404, 0x9C)], [(0x11, 0x00)], [0xA5], 0, [[]], 0, 0⟩, rfl, rfl, rfl, rfl, by decide, rfl⟩

/-- A command word accepted in the small-step grain, with a pulse in each of the coming `n` steps. -/
def accepting (w : CmdWord) (n : Nat) : State :=
  (waiting { st .output 0 0 [] with grain := .small } [] (List.replicate n pulse)).accept .host w

/-- RDREG 0x12 with nine pulses: eight steps of its transaction, three of them its wait, and the response. -/
theorem witness_SmallStepRunIsTheBigStep : ∃ (i : Instr) (s t u : State) (n : Nat),
    s.accepted i ∧ (∀ c ∈ s.inputs, c.undisturbed = true)
      ∧ (∀ k < n, ∃ v : State, Host.Core.run Sys2Proof.core k s = .next v ∧ v.busy = true)
      ∧ Host.Core.run Sys2Proof.core n s = .next t ∧ t.busy = false ∧ exec i s = .next u := by
  refine ⟨.rdreg 0x12, accepting 0x021200 9, ?_⟩
  obtain ⟨t, ht, hb⟩ := exists_idle
    (by decide : (nextOf (Host.Core.run Sys2Proof.core 9 (accepting 0x021200 9))).map State.busy = some false)
  exact ⟨t, _, 9, ⟨rfl, rfl, rfl, rfl, rfl, rfl, rfl⟩, by decide,
    fun k hk => exists_busy (by revert k; decide), ht, hb, rfl⟩

theorem witness_AcceptedCommandEndsWithin45Pulses : ∃ (i : Instr) (s : State),
    s.accepted i ∧ 45 ≤ s.inputs.length ∧ ∀ c ∈ s.inputs, c.undisturbed = true ∧ c.tu = true :=
  ⟨.swin, accepting 0x210000 45, ⟨rfl, rfl, rfl, rfl, rfl, rfl, rfl⟩, by decide,
    fun c hc => by rw [List.eq_of_mem_replicate hc]; exact ⟨rfl, rfl⟩⟩

end Sys2Proof.Tests
end

section
/-! PROOFS. The statements of 00_scope.md: what a step takes from its ports (O5, O6, O8), the parameters that no step
changes (O57), and the two levels of R10 (O59). O59 goes in two parts: the timed small-step run is simulated by a run in
untimed small steps, in which a wait ends at once, and the big step of a command is such an untimed run. -/

namespace Sys2Proof.Machine

/-! ### Which words decode to which layer -/

/-- A command word decodes to one of the ten commands, never to a micro-operation (R90, R138). -/
theorem hostIssuable_of_decodeCmd {w : CmdWord} {i : Instr} (h : decodeCmd w = .ok i) : i.hostIssuable = true := by
  unfold decodeCmd at h
  dsimp only at h
  split at h
  case h_1 => cases h; rfl
  case h_11 => cases h
  all_goals
    split at h
    · cases h; rfl
    · cases h

/-- The word of WRREG decodes to it whatever its operands are (R96). -/
theorem decodeCmd_wrreg (off val : Byte) : decodeCmd (CmdWord.ofBytes 0x01 off val) = .ok (.wrreg off val) := by
  simp only [decodeCmd, CmdWord.op_ofBytes, CmdWord.a_ofBytes, CmdWord.b_ofBytes]
  rfl

/-- A port-operation word decodes to one of the seven micro-operations, never to a command (R90, R92). -/
theorem not_hostIssuable_of_decodePort {w : PortWord} {i : Instr} (h : decodePort w = .ok i) :
    i.hostIssuable = false := by
  unfold decodePort at h
  dsimp only at h
  split at h
  case h_2 => cases h; rfl
  case h_4 => cases h; rfl
  case h_7 => cases h
  case h_3 =>
    split at h
    · cases h; rfl
    · split at h <;> cases h
      rfl
  all_goals
    split at h
    · cases h; rfl
    · cases h

/-! ### The two operations with a case distinction -/

/-- A TICK of HOST is answered (R185). -/
theorem State.endTick_of_host {s : State} (h : s.cSrc = .host) : s.endTick = s.respond .ok 0x00 := by
  simp only [State.endTick, h]

/-- A TICK of TIMER is not answered (R185). -/
theorem State.endTick_of_timer {s : State} (h : s.cSrc = .timer) : s.endTick = s.goIdle := by
  simp only [State.endTick, h]

theorem State.endTick_busy (s : State) : s.endTick.busy = false := by
  cases h : s.cSrc
  · rw [State.endTick_of_host h]; rfl
  · rw [State.endTick_of_timer h]; rfl

/-- After its wait a read transaction goes on to its sample (R24). -/
theorem State.endWait_of_read {s : State} (h : s.tRd = true) :
    s.endWait = State.toPhase { s with trace := s.trace ++ [.wait (waitUnits true)] } .sSmp := by
  simp only [State.endWait, h, if_true]

/-- After its wait a write transaction's item ends (R24). -/
theorem State.endWait_of_write {s : State} (h : s.tRd = false) :
    s.endWait = State.endItem { s with trace := s.trace ++ [.wait (waitUnits false)] } := by
  simp only [State.endWait, h, Bool.false_eq_true, if_false]

/-! ### The clock step -/

/-- The input levels touch EN, POLL_EN, LOADER's state, HOST's words and what ENV does of its own accord. -/
theorem State.levels_eq (s : State) (c : Cycle) :
    s.levels c = { s with
      pollEn := (s.levels c).pollEn, en := (s.levels c).en, load := (s.levels c).load
      released := (s.levels c).released, cmds := s.cmds ++ c.cmd.toList, env := s.env.drift c.chip } := by
  unfold State.levels State.releaseBus State.loaderReports
  split <;> split <;> rfl

/-- The poll timer touches POLL_CNT. -/
theorem State.countPoll_eq (s : State) (c : Cycle) :
    s.countPoll c = { s with pollCnt := (s.countPoll c).pollCnt } := by
  unfold State.countPoll
  split
  · split <;> rfl
  · rfl

/-- The state in which the block works in a clock step without reset: the input levels and the poll timer are done. -/
def State.clocked (s : State) : State := (s.beginCycle.levels s.cycle).countPoll s.cycle

/-- What the block works on is the state before the clock step, but for the pulse of `rsp_valid` that is over, the
levels, the timer, HOST's words, the list of inputs and what ENV did to the chip. -/
theorem State.clocked_eq (s : State) :
    s.clocked = { s with
      rspValid := false, inputs := s.inputs.tail, pollCnt := s.clocked.pollCnt
      pollEn := (s.beginCycle.levels s.cycle).pollEn, en := (s.beginCycle.levels s.cycle).en
      load := (s.beginCycle.levels s.cycle).load, released := (s.beginCycle.levels s.cycle).released
      cmds := s.cmds ++ s.cycle.cmd.toList, env := s.env.drift s.cycle.chip } := by
  rw [State.clocked, State.countPoll_eq, State.levels_eq]
  rfl

/-- A clock step in which no other agent touches the ports and `rst` is low: levels, timer, then the block's work. -/
theorem step_eq_work {s : State} (hf : s.cycle.foreign = false) (hr : s.cycle.rst = false) :
    step s = s.clocked.work s.cycle ((s.beginCycle.levels s.cycle).tickRaised s.cycle) := by
  simp only [step, State.clock, hf, hr, Bool.false_eq_true, if_false, State.clocked]

/-- In an enabled busy block a clock step is one small step (R36, R123); a tick has no part in it (R187). -/
theorem step_of_busy {s : State} (hf : s.cycle.foreign = false) (hr : s.cycle.rst = false)
    (he : s.clocked.en = true) (hb : s.busy = true) : step s = s.clocked.microStep s.cycle.tu := by
  have hb' : s.clocked.busy = true := by rw [State.clocked_eq]; exact hb
  rw [step_eq_work hf hr, State.work, if_pos he, if_pos hb']

/-- An enabled idle block looks for a tick and a word (R36, R187). -/
theorem step_of_idle {s : State} (hf : s.cycle.foreign = false) (hr : s.cycle.rst = false)
    (he : s.clocked.en = true) (hb : s.clocked.busy = false) :
    step s = s.clocked.idleStep ((s.beginCycle.levels s.cycle).tickRaised s.cycle) s.cycle.tickFirst := by
  rw [step_eq_work hf hr, State.work, if_pos he, if_neg (by rw [hb]; decide)]

/-- At S_CLR a small step begins the item at CS of the latched command's micro-program (R24, R123). -/
theorem State.microStep_of_item {s : State} {i : Instr} {item : Item} (hp : s.ph = .sClr)
    (hd : decodeCmd s.latched = .ok i) (hi : (program s i)[s.cs.toNat]? = some item) (tu : Bool) :
    s.microStep tu = s.startItem item := by
  simp only [State.microStep, hp, hd, hi]

/-- A waiting word is taken where no tick goes before it (R187, D27). -/
theorem State.idleStep_of_word {s : State} {w : CmdWord} {rest : List CmdWord} {tick tickFirst : Bool}
    (hc : s.cmds = w :: rest) (ht : tick = true → tickFirst = false) :
    s.idleStep tick tickFirst = s.takeCommand w rest := by
  have hn : (tick && tickFirst) = false := by
    cases tick
    · rfl
    · exact ht rfl
  simp only [State.idleStep, hc, hn, Bool.false_eq_true, if_false]

/-- A raised tick is taken where no word waits or the tick goes first (R187, R217 (b)). -/
theorem State.idleStep_of_tick {s : State} {tickFirst : Bool} (h : s.cmds = [] ∨ tickFirst = true) :
    s.idleStep true tickFirst = s.takeTick := by
  unfold State.idleStep
  rcases h with h | rfl
  · rw [h]; rfl
  · split <;> rfl

/-- A well-formed word that is taken is accepted and started. -/
theorem State.takeCommand_of_decode {w : CmdWord} {i : Instr} (h : decodeCmd w = .ok i) (s : State)
    (rest : List CmdWord) : s.takeCommand w rest = (State.accept { s with cmds := rest } .host w).start i := by
  simp only [State.takeCommand, h]

/-- The latch of an accepted word holds that word (R27). -/
theorem State.latched_accept (s : State) (src : Source) (w : CmdWord) : (s.accept src w).latched = w :=
  CmdWord.ofBytes_fields w

/-- What follows the acceptance of a well-formed word by an enabled block in either grain (R10): the whole command, or
the state before its micro-program. -/
theorem State.start_accept {s : State} {w : CmdWord} {i : Instr} (he : s.en = true) (hv : s.rspValid = false)
    (hd : decodeCmd w = .ok i) (src : Source) :
    (s.grain = .big → (s.accept src w).start i = exec i (s.accept src w))
      ∧ (s.grain = .small → (s.accept src w).start i = .next (s.accept src w) ∧ (s.accept src w).accepted i) := by
  refine ⟨fun hg => ?_, fun hg => ⟨?_, he, hg, rfl, rfl, rfl, hv, ?_⟩⟩
  · simp only [State.start, State.accept_grain, hg]
  · simp only [State.start, State.accept_grain, hg]
  · rw [State.latched_accept, hd]

@[simp] theorem State.clocked_grain (s : State) : s.clocked.grain = s.grain := by rw [State.clocked_eq]
@[simp] theorem State.clocked_rspValid (s : State) : s.clocked.rspValid = false := by rw [State.clocked_eq]

/-- Settles O5: the step is the acceptance of the word, followed by what the grain starts. -/
theorem stepRunsPresentedCommand : Obligations.StepRunsPresentedCommand := by
  unfold Obligations.StepRunsPresentedCommand
  rintro s t u w rest i rfl hf hr he hb hc ht hd rfl
  have hen : s.clocked.en = true := (State.countPoll_en _ _).trans he
  have hbusy : s.clocked.busy = false := (State.countPoll_busy _ _).trans hb
  have hcmds : s.clocked.cmds = w :: rest := (State.countPoll_cmds _ _).trans hc
  rw [step_of_idle hf hr hen hbusy, State.idleStep_of_word hcmds ht, State.takeCommand_of_decode hd,
    State.levels_grain, State.beginCycle_grain, ← State.clocked_grain]
  exact State.start_accept (s := { s.clocked with cmds := rest }) hen s.clocked_rspValid hd .host

/-- Settles O6: the step is the acceptance of the tick's word, followed by what the grain starts. -/
theorem stepRunsTakenTick : Obligations.StepRunsTakenTick := by
  unfold Obligations.StepRunsTakenTick
  rintro s t u rfl hf hr he hb ht hc rfl
  have hen : s.clocked.en = true := (State.countPoll_en _ _).trans he
  have hbusy : s.clocked.busy = false := (State.countPoll_busy _ _).trans hb
  have hcmds : s.clocked.cmds = [] ∨ s.cycle.tickFirst = true := hc.imp_left (State.countPoll_cmds _ _).trans
  have hdecode : decodeCmd tickWord = .ok .tick := rfl
  rw [step_of_idle hf hr hen hbusy, ht, State.idleStep_of_tick hcmds,
    State.levels_grain, State.beginCycle_grain, ← State.clocked_grain]
  exact State.start_accept hen s.clocked_rspValid hdecode .timer

/-! ### A word placed where the step fetches -/

/-- A clock step in which the outside does nothing moves no level and does nothing to the environment. -/
theorem State.levels_quiet (s : State) : s.levels Cycle.quiet = s := by
  simp [State.levels, State.loaderReports, State.releaseBus, Cycle.quiet]

/-- In a quiet clock step the block works on the state as it was, but for the pulse of `rsp_valid` and the timer. -/
theorem State.clocked_of_quiet {s : State} (h : s.cycle = Cycle.quiet) :
    s.clocked = { s with rspValid := false, inputs := s.inputs.tail, pollCnt := s.clocked.pollCnt } := by
  rw [State.clocked, h, State.levels_quiet, State.countPoll_eq]
  rfl

theorem State.withFetchWord_cmd (s : State) (w : CmdWord) : s.withFetchWord 24 w.toNat = s.presenting w := by
  rw [State.withFetchWord, if_pos (Nat.le_refl 24), BitVec.ofNat_toNat, BitVec.setWidth_eq]

theorem State.withFetchWord_port {w : PortWord} {i : Instr} (h : decodePort w = .ok i) (s : State) :
    s.withFetchWord 32 w.toNat = s.beforePortOp i := by
  rw [State.withFetchWord, if_neg (by decide), BitVec.ofNat_toNat, BitVec.setWidth_eq, State.fetchingPort, h]

/-- The word presented to an idle, enabled block is the command that the step runs. -/
theorem step_presenting {w : CmdWord} {i : Instr} (h : decodeCmd w = .ok i) (s : State) :
    step (s.presenting w) =
      exec i (State.accept { (s.presenting w).clocked with cmds := s.cmds } .host w) := by
  have hq : (s.presenting w).beginCycle.levels (s.presenting w).cycle = (s.presenting w).beginCycle :=
    State.levels_quiet _
  exact (stepRunsPresentedCommand (s.presenting w) _ _ w s.cmds i rfl rfl rfl (by rw [hq]; rfl) (by rw [hq]; rfl)
    (by rw [hq]; rfl) (fun _ => rfl) h rfl).1 (by rw [hq]; rfl)

/-- A sequencer that stands in a transaction performs its small step in the coming, quiet clock step. -/
theorem step_inTransaction (s : State) (rd : Bool) (off val : Byte) (ph : Phase) :
    ∃ (n : BitVec 8) (t : State),
      t = { s.inTransaction rd off val ph with rspValid := false, inputs := s.inputs, pollCnt := n }
        ∧ step (s.inTransaction rd off val ph) = t.microStep false := by
  have hc := State.clocked_of_quiet (s := s.inTransaction rd off val ph) rfl
  exact ⟨_, _, hc, step_of_busy rfl rfl (by rw [hc]; rfl) rfl⟩

/-- A micro-operation that the sequencer stands before is what the step performs. -/
theorem step_beforePortOp {i : Instr} (h : i.hostIssuable = false) (s : State) :
    ∃ t : State, step (s.beforePortOp i) = exec i t ∧ t.mode = s.mode ∧ t.sh0 = s.sh0 ∧ t.sh1 = s.sh1
      ∧ t.disp = s.disp ∧ t.trace = s.trace ∧ t.env = s.env ∧ t.cfg = s.cfg := by
  cases i with
  | stClr =>
    obtain ⟨n, t, ht, hstep⟩ := step_inTransaction s false 0 0 .sClr
    have hph : t.ph = .sClr := by rw [ht]; rfl
    have hlatched : t.latched = CmdWord.ofBytes 0x01 0 0 := by rw [ht]; rfl
    have hcs : t.cs = 0 := by rw [ht]; rfl
    have hitem : (program t (.wrreg 0 0))[t.cs.toNat]? = some (.write 0 0) := by rw [hcs]; rfl
    refine ⟨t.loadWrite 0 0,
      hstep.trans (State.microStep_of_item hph (hlatched ▸ decodeCmd_wrreg 0 0) hitem false), ?_⟩
    rw [ht]
    exact ⟨rfl, rfl, rfl, rfl, rfl, rfl, rfl⟩
  | setCmd off =>
    obtain ⟨n, t, rfl, hstep⟩ := step_inTransaction s false off 0 .sCmd
    exact ⟨_, hstep, rfl, rfl, rfl, rfl, rfl, rfl, rfl⟩
  | setSlvW =>
    obtain ⟨n, t, rfl, hstep⟩ := step_inTransaction s false 0 0 .sSlv
    exact ⟨_, hstep, rfl, rfl, rfl, rfl, rfl, rfl, rfl⟩
  | setSlvR =>
    obtain ⟨n, t, rfl, hstep⟩ := step_inTransaction s true 0 0 .sSlv
    exact ⟨_, hstep, rfl, rfl, rfl, rfl, rfl, rfl, rfl⟩
  | setData val =>
    obtain ⟨n, t, rfl, hstep⟩ := step_inTransaction s false 0 val .sDat
    exact ⟨_, hstep, rfl, rfl, rfl, rfl, rfl, rfl, rfl⟩
  | go =>
    obtain ⟨n, t, rfl, hstep⟩ := step_inTransaction s false 0 0 .sGo
    exact ⟨_, hstep, rfl, rfl, rfl, rfl, rfl, rfl, rfl⟩
  | getData =>
    obtain ⟨n, t, rfl, hstep⟩ := step_inTransaction s true 0 0 .sSmp
    exact ⟨_, hstep, rfl, rfl, rfl, rfl, rfl, rfl, rfl⟩
  | _ => cases h

/-- Settles O8: a placed command word is presented, a placed port-operation word stands in its transaction. -/
theorem placedWordIsRunNext : Obligations.PlacedWordIsRunNext := by
  unfold Obligations.PlacedWordIsRunNext
  refine ⟨fun s w i h => ?_, fun s w i h => ?_⟩
  · rw [State.withFetchWord_cmd]
    refine ⟨_, step_presenting h s, ?_⟩
    rw [State.clocked_of_quiet (s := s.presenting w) rfl]
    exact ⟨rfl, rfl, rfl, rfl, rfl, rfl, rfl, rfl⟩
  · rw [State.withFetchWord_port h]
    exact step_beforePortOp (not_hostIssuable_of_decodePort h) s


/-! ### What no command and no small step touches -/

/-- EN, the inputs to come, the parameters and the grain are not for a command to change. -/
structure State.SameOutside (s t : State) : Prop where
  en : t.en = s.en
  inputs : t.inputs = s.inputs
  cfg : t.cfg = s.cfg
  grain : t.grain = s.grain

theorem State.SameOutside.refl (s : State) : s.SameOutside s := ⟨rfl, rfl, rfl, rfl⟩

theorem State.SameOutside.trans {s t u : State} (h : s.SameOutside t) (h' : t.SameOutside u) : s.SameOutside u :=
  ⟨h'.en.trans h.en, h'.inputs.trans h.inputs, h'.cfg.trans h.cfg, h'.grain.trans h.grain⟩

theorem State.endTick_sameOutside (s : State) : s.SameOutside s.endTick := by
  cases h : s.cSrc
  · rw [State.endTick_of_host h]; exact ⟨rfl, rfl, rfl, rfl⟩
  · rw [State.endTick_of_timer h]; exact ⟨rfl, rfl, rfl, rfl⟩

theorem State.endWait_sameOutside (s : State) : s.SameOutside s.endWait := by
  cases h : s.tRd
  · rw [State.endWait_of_write h]; exact ⟨rfl, rfl, rfl, rfl⟩
  · rw [State.endWait_of_read h]; exact ⟨rfl, rfl, rfl, rfl⟩

theorem State.waitStep_sameOutside (s : State) (tu : Bool) : s.SameOutside (s.waitStep tu) := by
  rcases s.waitStep_cases tu with h | h | h <;> rw [h]
  · exact .refl s
  · exact ⟨rfl, rfl, rfl, rfl⟩
  · exact .trans (t := { s with wCnt := s.wCnt + 1 }) ⟨rfl, rfl, rfl, rfl⟩ (State.endWait_sameOutside _)

theorem exec_sameOutside {i : Instr} {s t : State} (h : exec i s = .next t) : s.SameOutside t := by
  cases i with
  | wrreg off val => cases h; constructor <;> simp
  | rdreg off => cases h; constructor <;> simp
  | setdir r ao => cases h; constructor <;> simp
  | wrbit p b => cases h; split <;> constructor <;> simp [State.raise]
  | rdin r => cases h; constructor <;> simp
  | swout => cases h; constructor <;> simp
  | swin => cases h; constructor <;> simp
  | allhi => cases h; split <;> constructor <;> simp [State.raise]
  | alllo => cases h; split <;> constructor <;> simp [State.raise]
  | tick =>
    cases h
    split
    · exact s.endTick_sameOutside
    · refine .trans ?_ (State.endTick_sameOutside _)
      constructor <;> simp
  | _ => cases h; exact ⟨rfl, rfl, rfl, rfl⟩

theorem State.startItem_sameOutside {s t : State} {item : Item} (h : s.startItem item = .next t) :
    s.SameOutside t := by
  cases item with
  | guard rejected => cases h; cases rejected <;> exact ⟨rfl, rfl, rfl, rfl⟩
  | modeTest skip =>
    cases h
    cases skip
    · exact ⟨rfl, rfl, rfl, rfl⟩
    · exact s.endTick_sameOutside
  | endTick => cases h; exact s.endTick_sameOutside
  | shadow r v => cases h; cases r <;> exact ⟨rfl, rfl, rfl, rfl⟩
  | keep r => cases h; cases r <;> exact ⟨rfl, rfl, rfl, rfl⟩
  | _ => cases h; exact ⟨rfl, rfl, rfl, rfl⟩

theorem State.microStep_sameOutside {s t : State} {tu : Bool} (h : s.microStep tu = .next t) : s.SameOutside t := by
  rcases State.microStep_cases h with ⟨-, -, -, rfl⟩ | ⟨-, _, _, -, -, hitem⟩ | ⟨-, rfl⟩ | ⟨-, -, rfl⟩ | ⟨-, -, rfl⟩
    | ⟨-, rfl⟩ | ⟨-, rfl⟩ | ⟨-, rfl⟩ | ⟨-, rfl⟩
  case inr.inl => exact State.startItem_sameOutside hitem
  case inr.inr.inr.inr.inr.inr.inr.inl => exact s.waitStep_sameOutside tu
  all_goals exact ⟨rfl, rfl, rfl, rfl⟩

theorem State.start_sameOutside {s t : State} {i : Instr} (h : s.start i = .next t) : s.SameOutside t := by
  rcases State.start_cases h with ⟨-, h⟩ | ⟨-, rfl⟩
  · exact exec_sameOutside h
  · exact .refl t

theorem State.takeTick_sameOutside {s t : State} (h : s.takeTick = .next t) : s.SameOutside t :=
  .trans (t := s.accept .timer tickWord) ⟨rfl, rfl, rfl, rfl⟩ (State.start_sameOutside h)

theorem State.takeCommand_sameOutside {s t : State} {w : CmdWord} {rest : List CmdWord}
    (h : s.takeCommand w rest = .next t) : s.SameOutside t := by
  rcases State.takeCommand_cases h with ⟨-, -, rfl⟩ | ⟨_, -, hstart⟩
  · exact ⟨rfl, rfl, rfl, rfl⟩
  · exact .trans (t := State.accept { s with cmds := rest } .host w) ⟨rfl, rfl, rfl, rfl⟩
      (State.start_sameOutside hstart)

/-- Settles O57: levels, timer and reset leave the parameters and the grain, and so does all the block can do. -/
theorem stepsKeepTheParameters : Obligations.StepsKeepTheParameters := by
  unfold Obligations.StepsKeepTheParameters
  intro s t h
  obtain ⟨-, ⟨-, rfl⟩ | ⟨-, u, hu, hwork⟩⟩ := step_cases h
  · simp [State.blockReset]
  · have hkeep : u.SameOutside t := by
      rcases hwork with ⟨-, rfl⟩ | ⟨-, -, hmicro⟩ | ⟨-, -, rfl⟩ | ⟨-, -, htick⟩ | ⟨-, -, _, _, -, hcmd⟩
      · exact .refl t
      · exact State.microStep_sameOutside hmicro
      · exact .refl t
      · exact State.takeTick_sameOutside htick
      · exact State.takeCommand_sameOutside hcmd
    rw [hkeep.cfg, hkeep.grain, hu]
    simp

/-! ### The untimed view of the operations (R10) -/

/-- The registers of the oracle's chip reach nothing else of the environment: a port write acts on the rest alone. -/
theorem Env.settled_acceptWrite (e : Env) (p : Port) (v : Byte) :
    (e.acceptWrite p v).settled = (e.settled.acceptWrite p v).settled := by
  obtain ⟨kind, io, chip, answers, draws, effects, transfers, epoch⟩ := e
  cases kind with
  | reference => rfl
  | oracle =>
    unfold Env.acceptWrite
    split_ifs <;> rfl

/-- A port read acts on the environment but for the registers of the oracle's chip. -/
theorem Env.settled_afterRead (e : Env) (p : Port) :
    (e.afterRead p).settled = (e.settled.afterRead p).settled := by
  obtain ⟨kind, io, chip, answers, draws, effects, transfers, epoch⟩ := e
  cases kind with
  | reference => rfl
  | oracle =>
    unfold Env.afterRead
    split_ifs <;> rfl

/-- A port read does not return what a register of the oracle's chip holds. -/
@[simp] theorem Env.settled_readByte (e : Env) (p : Port) : e.settled.readByte p = e.readByte p := by
  obtain ⟨kind, io, chip, answers, draws, effects, transfers, epoch⟩ := e
  cases kind <;> rfl

/-- What the environment does of its own accord is not seen by an untimed observer. -/
@[simp] theorem Env.settled_drift (e : Env) (cs : ChipEffect) : (e.drift cs).settled = e.settled := by
  obtain ⟨kind, io, chip, answers, draws, effects, transfers, epoch⟩ := e
  cases kind <;> rfl

/-- Nothing more is left out the second time. -/
@[simp] theorem Env.settled_settled (e : Env) : e.settled.settled = e.settled := by
  obtain ⟨kind, io, chip, answers, draws, effects, transfers, epoch⟩ := e
  cases kind <;> rfl

/-- Nothing more is hidden by looking twice. -/
@[simp] theorem State.untimed_untimed (s : State) : s.untimed.untimed = s.untimed := by
  simp only [State.untimed, Env.settled_settled]

@[simp] theorem program_untimed (s : State) (i : Instr) : program s.untimed i = program s i := by cases i <;> rfl

/-- An operation whose untimed result does not depend on what an untimed observer does not see. -/
def Timeless (f : State → State) : Prop := ∀ s : State, (f s).untimed = (f s.untimed).untimed

/-- An operation that does not touch what an untimed observer does not see is timeless. -/
theorem Timeless.of_commute {f : State → State} (h : ∀ s, (f s).untimed = f s.untimed) : Timeless f := fun s => by
  rw [h s, h s.untimed, State.untimed_untimed]

theorem Timeless.comp {f g : State → State} (hg : Timeless g) (hf : Timeless f) : Timeless (fun s => g (f s)) :=
  fun s => by rw [hg (f s), hf s, ← hg (f s.untimed)]

/-- A timeless operation takes states that look alike to states that look alike. -/
theorem Timeless.congr {f : State → State} (h : Timeless f) {s t : State} (hst : s.untimed = t.untimed) :
    (f s).untimed = (f t).untimed := by
  rw [h s, hst, ← h t]

theorem timeless_portWrite (p : Port) (v : Byte) : Timeless (State.portWrite · p v) := fun s => by
  simp only [State.untimed, State.portWrite, ← Env.settled_acceptWrite]

theorem timeless_portRead (p : Port) : Timeless (State.portRead · p) := fun s => by
  simp only [State.untimed, State.portRead, ← Env.settled_afterRead, Env.settled_readByte]

theorem timeless_toPhase (ph : Phase) : Timeless (State.toPhase · ph) := .of_commute fun _ => rfl
theorem timeless_endItem : Timeless State.endItem := .of_commute fun _ => rfl
theorem timeless_respond (st : RspStatus) (d : Byte) : Timeless (State.respond · st d) := .of_commute fun _ => rfl

theorem timeless_endTick : Timeless State.endTick := .of_commute fun s => by
  cases h : s.cSrc
  · rw [State.endTick_of_host h, State.endTick_of_host (s := s.untimed) h]; rfl
  · rw [State.endTick_of_timer h, State.endTick_of_timer (s := s.untimed) h]; rfl

theorem timeless_endWait : Timeless State.endWait := .of_commute fun s => by
  cases h : s.tRd
  · rw [State.endWait_of_write h, State.endWait_of_write (s := s.untimed) h]; rfl
  · rw [State.endWait_of_read h, State.endWait_of_read (s := s.untimed) h]; rfl

theorem timeless_clearStatus : Timeless State.clearStatus :=
  (timeless_toPhase .sCmd).comp (timeless_portWrite portStatus byteClr)

theorem timeless_setTarget (off : Byte) : Timeless (State.setTarget · off) :=
  (timeless_toPhase .sSlv).comp (timeless_portWrite portCmd off)

theorem timeless_addressForWrite : Timeless State.addressForWrite :=
  (timeless_toPhase .sDat).comp (timeless_portWrite portSlv slvWrite)

theorem timeless_addressForRead : Timeless State.addressForRead :=
  (timeless_toPhase .sGo).comp (timeless_portWrite portSlv slvRead)

theorem timeless_setPayload (val : Byte) : Timeless (State.setPayload · val) :=
  (timeless_toPhase .sGo).comp (timeless_portWrite portData val)

theorem timeless_startTransfer : Timeless State.startTransfer :=
  Timeless.comp (g := fun s => { s.toPhase .sWait with wCnt := 0 }) (.of_commute fun _ => rfl)
    (timeless_portWrite portCtrl byteGo)

theorem timeless_sampleData : Timeless State.sampleData := timeless_endItem.comp (timeless_portRead portData)

/-- The one state that an item leads to in its first step. -/
theorem startItem_timeless (item : Item) :
    ∃ f : State → State, Timeless f ∧ ∀ s : State, s.startItem item = .next (f s) := by
  cases item with
  | guard rejected =>
    cases rejected
    · exact ⟨_, timeless_endItem, fun _ => rfl⟩
    · exact ⟨_, timeless_respond .invalidOp 0x00, fun _ => rfl⟩
  | modeTest skip =>
    cases skip
    · exact ⟨_, timeless_endItem, fun _ => rfl⟩
    · exact ⟨_, timeless_endTick, fun _ => rfl⟩
  | write off val =>
    exact ⟨_, timeless_clearStatus.comp (f := (State.loadWrite · off val)) (.of_commute fun _ => rfl), fun _ => rfl⟩
  | read off =>
    exact ⟨_, timeless_clearStatus.comp (f := (State.loadRead · off)) (.of_commute fun _ => rfl), fun _ => rfl⟩
  | shadow r v =>
    exact ⟨_, timeless_endItem.comp (f := (State.setSh · r v)) (.of_commute fun _ => by cases r <;> rfl),
      fun _ => rfl⟩
  | zeroShadows => exact ⟨_, timeless_endItem.comp (f := State.zeroShadows) (.of_commute fun _ => rfl), fun _ => rfl⟩
  | enterInput => exact ⟨_, timeless_endItem.comp (f := State.enterInput) (.of_commute fun _ => rfl), fun _ => rfl⟩
  | enterOutput => exact ⟨_, timeless_endItem.comp (f := State.enterOutput) (.of_commute fun _ => rfl), fun _ => rfl⟩
  | keep r =>
    exact ⟨_, timeless_endItem.comp (f := (State.keepSample · r)) (.of_commute fun _ => by cases r <;> rfl),
      fun _ => rfl⟩
  | showLevels => exact ⟨_, timeless_endItem.comp (f := State.showLevels) (.of_commute fun _ => rfl), fun _ => rfl⟩
  | respond d => exact ⟨_, timeless_respond .ok d, fun _ => rfl⟩
  | endTick => exact ⟨_, timeless_endTick, fun _ => rfl⟩

/-! ### The untimed small step -/

/-- One small step of a busy block in which a wait ends at once. -/
def State.untimedStep (s : State) : Host.Outcome State Fault Refusal :=
  if s.ph = .sWait then .next s.endWait else s.microStep false

section
variable {s : State}

/-- Only a wait looks at the pulse (R124). -/
theorem State.microStep_eq_untimedStep (h : s.ph ≠ .sWait) (tu : Bool) : s.microStep tu = s.untimedStep := by
  unfold State.untimedStep State.microStep
  rw [if_neg h]
  cases hp : s.ph
  case sWait => exact absurd hp h
  all_goals rfl

theorem State.microStep_sWait (h : s.ph = .sWait) (tu : Bool) : s.microStep tu = .next (s.waitStep tu) := by
  simp only [State.microStep, h]

theorem State.untimedStep_sWait (h : s.ph = .sWait) : s.untimedStep = .next s.endWait := if_pos h

theorem State.untimedStep_sCmd (h : s.ph = .sCmd) : s.untimedStep = .next (s.setTarget s.tOff) := by
  rw [← State.microStep_eq_untimedStep (by rw [h]; decide) false, State.microStep, h]; rfl

theorem State.untimedStep_sSlv_read (h : s.ph = .sSlv) (hr : s.tRd = true) :
    s.untimedStep = .next s.addressForRead := by
  rw [← State.microStep_eq_untimedStep (by rw [h]; decide) false, State.microStep, h]
  simp only [hr, if_true]
  rfl

theorem State.untimedStep_sSlv_write (h : s.ph = .sSlv) (hr : s.tRd = false) :
    s.untimedStep = .next s.addressForWrite := by
  rw [← State.microStep_eq_untimedStep (by rw [h]; decide) false, State.microStep, h]
  simp only [hr, Bool.false_eq_true, if_false]
  rfl

theorem State.untimedStep_sDat (h : s.ph = .sDat) : s.untimedStep = .next (s.setPayload s.tVal) := by
  rw [← State.microStep_eq_untimedStep (by rw [h]; decide) false, State.microStep, h]; rfl

theorem State.untimedStep_sGo (h : s.ph = .sGo) : s.untimedStep = .next s.startTransfer := by
  rw [← State.microStep_eq_untimedStep (by rw [h]; decide) false, State.microStep, h]; rfl

theorem State.untimedStep_sSmp (h : s.ph = .sSmp) : s.untimedStep = .next s.sampleData := by
  rw [← State.microStep_eq_untimedStep (by rw [h]; decide) false, State.microStep, h]; rfl

theorem State.untimedStep_of_illegal {e : DecodeError} (h : s.ph = .sClr) (hd : decodeCmd s.latched = .error e) :
    s.untimedStep = .next (s.raise .illegalCmd) := by
  simp [State.untimedStep, State.microStep, h, hd]

theorem State.untimedStep_of_end {i : Instr} (h : s.ph = .sClr) (hd : decodeCmd s.latched = .ok i)
    (hi : (program s i)[s.cs.toNat]? = none) : s.untimedStep = .fault .csOutsideProgram := by
  simp only [State.untimedStep, State.microStep, h, hd, hi, reduceCtorEq, if_false]

theorem State.untimedStep_of_item {i : Instr} {item : Item} (h : s.ph = .sClr) (hd : decodeCmd s.latched = .ok i)
    (hi : (program s i)[s.cs.toNat]? = some item) : s.untimedStep = s.startItem item := by
  rw [← State.microStep_eq_untimedStep (by rw [h]; decide) false, State.microStep_of_item h hd hi]

end

/-- An outcome as an untimed observer sees it. -/
def untimedOutcome : Host.Outcome State Fault Refusal → Host.Outcome State Fault Refusal
  | .next s => .next s.untimed
  | .fault r => .fault r
  | .refused r => .refused r

/-- What the untimed small step leads to does not depend on what an untimed observer does not see. -/
theorem State.untimedStep_untimed (s : State) :
    untimedOutcome s.untimedStep = untimedOutcome s.untimed.untimedStep := by
  have lift : ∀ {f : State → State}, Timeless f →
      untimedOutcome (.next (f s)) = untimedOutcome (.next (f s.untimed)) := fun hf => congrArg Host.Outcome.next (hf s)
  cases hp : s.ph with
  | sClr =>
    cases hd : decodeCmd s.latched with
    | error e =>
      rw [State.untimedStep_of_illegal hp hd, State.untimedStep_of_illegal (s := s.untimed) hp hd]
      exact lift (timeless_respond .illegalCmd 0x00)
    | ok i =>
      have hprogram : (program s.untimed i)[s.untimed.cs.toNat]? = (program s i)[s.cs.toNat]? := by
        rw [program_untimed]; rfl
      cases hi : (program s i)[s.cs.toNat]? with
      | none =>
        rw [State.untimedStep_of_end hp hd hi, State.untimedStep_of_end (s := s.untimed) hp hd (hprogram.trans hi)]
      | some item =>
        obtain ⟨f, hf, hitem⟩ := startItem_timeless item
        rw [State.untimedStep_of_item hp hd hi, State.untimedStep_of_item (s := s.untimed) hp hd (hprogram.trans hi),
          hitem, hitem]
        exact lift hf
  | sCmd =>
    rw [State.untimedStep_sCmd hp, State.untimedStep_sCmd (s := s.untimed) hp]
    exact lift (timeless_setTarget s.tOff)
  | sSlv =>
    cases hr : s.tRd with
    | true =>
      rw [State.untimedStep_sSlv_read hp hr, State.untimedStep_sSlv_read (s := s.untimed) hp hr]
      exact lift timeless_addressForRead
    | false =>
      rw [State.untimedStep_sSlv_write hp hr, State.untimedStep_sSlv_write (s := s.untimed) hp hr]
      exact lift timeless_addressForWrite
  | sDat =>
    rw [State.untimedStep_sDat hp, State.untimedStep_sDat (s := s.untimed) hp]
    exact lift (timeless_setPayload s.tVal)
  | sGo =>
    rw [State.untimedStep_sGo hp, State.untimedStep_sGo (s := s.untimed) hp]
    exact lift timeless_startTransfer
  | sWait =>
    rw [State.untimedStep_sWait hp, State.untimedStep_sWait (s := s.untimed) hp]
    exact lift timeless_endWait
  | sSmp =>
    rw [State.untimedStep_sSmp hp, State.untimedStep_sSmp (s := s.untimed) hp]
    exact lift timeless_sampleData

/-- A timed small step leads to what the untimed one leads to, or a wait goes on and nothing is seen. -/
theorem State.microStep_untimed {s t : State} {tu : Bool} (h : s.microStep tu = .next t) :
    t.untimed = s.untimed ∨ untimedOutcome s.untimedStep = .next t.untimed := by
  by_cases hp : s.ph = .sWait
  · rw [State.microStep_sWait hp] at h
    cases h
    rw [State.untimedStep_sWait hp]
    rcases s.waitStep_cases tu with hw | hw | hw <;> rw [hw]
    · exact .inl rfl
    · exact .inl rfl
    · exact .inr (congrArg Host.Outcome.next
        (timeless_endWait.congr (s := s) (t := { s with wCnt := s.wCnt + 1 }) rfl))
  · rw [State.microStep_eq_untimedStep hp] at h
    exact .inr (by rw [h]; rfl)

/-! ### The small-step run as an untimed observer sees it (R10, R123, R124) -/

/-- A run of a busy block in untimed small steps. -/
def UntimedRun : State → State → Prop :=
  Relation.ReflTransGen fun s t => s.busy = true ∧ s.untimedStep = .next t

/-- From an idle block no run goes on. -/
theorem UntimedRun.eq_of_idle {s t : State} (h : UntimedRun s t) (hs : s.busy = false) : s = t := by
  rcases Relation.ReflTransGen.cases_head h with rfl | ⟨-, ⟨hb, -⟩, -⟩
  · rfl
  · rw [hs] at hb; cases hb

/-- A run of a busy block to an idle one goes through the one untimed step there is. -/
theorem UntimedRun.head_of_busy {s t s' : State} (h : UntimedRun s t) (hs : s.busy = true) (ht : t.busy = false)
    (hstep : untimedOutcome s.untimedStep = .next s'.untimed) :
    ∃ s'' : State, s'.untimed = s''.untimed ∧ UntimedRun s'' t := by
  rcases Relation.ReflTransGen.cases_head h with rfl | ⟨s'', ⟨-, hs''⟩, hrun⟩
  · rw [hs] at ht; cases ht
  · rw [hs''] at hstep
    exact ⟨s'', (Host.Outcome.next.inj hstep).symm, hrun⟩

/-- An enabled block whose coming clock steps are undisturbed; in mid-command no response stands. -/
structure State.Underway (s : State) : Prop where
  en : s.en = true
  silent : s.busy = true → s.rspValid = false
  undisturbed : ∀ c ∈ s.inputs, c.undisturbed = true

theorem State.Underway.cycle_undisturbed {s : State} (h : s.Underway) : s.cycle.undisturbed = true := by
  unfold State.cycle
  cases hc : s.inputs with
  | nil => rfl
  | cons c cs => exact h.undisturbed c (hc ▸ List.mem_cons_self)

/-- An undisturbed clock step moves neither EN nor LOADER's state. -/
theorem State.levels_undisturbed {c : Cycle} (h : c.undisturbed = true) (s : State) :
    (s.levels c).en = s.en ∧ (s.levels c).load = s.load ∧ (s.levels c).released = s.released := by
  simp only [Cycle.undisturbed, Bool.and_eq_true, Bool.not_eq_true', Option.isNone_iff_eq_none] at h
  obtain ⟨⟨-, hrelease⟩, hload⟩ := h
  simp [State.levels, State.loaderReports, State.releaseBus, hload, hrelease]

/-- What the block works on in an undisturbed clock step looks as it was. -/
theorem State.Underway.untimed_clocked {s : State} (h : s.Underway) (hb : s.busy = true) :
    s.clocked.untimed = s.untimed := by
  obtain ⟨hen, hload, hreleased⟩ := State.levels_undisturbed h.cycle_undisturbed s.beginCycle
  rw [State.clocked_eq, hen, hload, hreleased]
  simp only [State.untimed, Env.settled_drift, h.silent hb]
  rfl

/-- A block that is still busy after the first step of an item has given no response in it. -/
theorem State.startItem_rspValid {s t : State} {item : Item} (h : s.startItem item = .next t) (hb : t.busy = true) :
    t.rspValid = s.rspValid := by
  cases item with
  | guard rejected => cases h; cases rejected <;> [rfl; cases hb]
  | modeTest skip =>
    cases h
    cases skip
    · rfl
    · exact absurd hb (Bool.eq_false_iff.mp s.endTick_busy)
  | respond d => cases h; cases hb
  | endTick => cases h; exact absurd hb (Bool.eq_false_iff.mp s.endTick_busy)
  | shadow r v => cases h; exact State.setSh_rspValid s r v
  | keep r => cases h; exact State.keepSample_rspValid s r
  | _ => cases h; rfl

/-- A block that is still busy after a small step has given no response in it. -/
theorem State.microStep_rspValid {s t : State} {tu : Bool} (h : s.microStep tu = .next t) (hb : t.busy = true) :
    t.rspValid = s.rspValid := by
  have hend : ∀ u : State, u.endWait.rspValid = u.rspValid := fun u => by
    cases h : u.tRd
    · rw [State.endWait_of_write h]; rfl
    · rw [State.endWait_of_read h]; rfl
  rcases State.microStep_cases h with ⟨-, -, -, rfl⟩ | ⟨-, _, _, -, -, hitem⟩ | ⟨-, rfl⟩ | ⟨-, -, rfl⟩ | ⟨-, -, rfl⟩
    | ⟨-, rfl⟩ | ⟨-, rfl⟩ | ⟨-, rfl⟩ | ⟨-, rfl⟩
  case inl => cases hb
  case inr.inl => exact State.startItem_rspValid hitem hb
  case inr.inr.inr.inr.inr.inr.inr.inl =>
    rcases s.waitStep_cases tu with hw | hw | hw <;> rw [hw]
    exact hend _
  all_goals rfl

/-- A clock step of a command under way, as an untimed observer sees it: nothing, or the untimed small step. -/
theorem State.Underway.step_untimed {s t : State} (h : s.Underway) (hb : s.busy = true) (hstep : step s = .next t) :
    t.Underway ∧ (t.untimed = s.untimed ∨ untimedOutcome s.untimedStep = .next t.untimed) := by
  have hc := h.cycle_undisturbed
  simp only [Cycle.undisturbed, Bool.and_eq_true, Bool.not_eq_true'] at hc
  obtain ⟨⟨⟨hrst, hforeign⟩, -⟩, -⟩ := hc
  have hen : s.clocked.en = true := by
    rw [State.clocked_eq, (State.levels_undisturbed h.cycle_undisturbed s.beginCycle).1]; exact h.en
  rw [step_of_busy hforeign hrst hen hb] at hstep
  have hout := State.microStep_sameOutside hstep
  have hinputs : t.inputs = s.inputs.tail := by rw [hout.inputs, State.clocked_eq]
  refine ⟨⟨hout.en.trans hen, fun hbusy => ?_, fun c hc => ?_⟩, ?_⟩
  · rw [State.microStep_rspValid hstep hbusy, State.clocked_rspValid]
  · exact h.undisturbed c (List.mem_of_mem_tail (hinputs ▸ hc))
  · have hsame := h.untimed_clocked hb
    rw [← hsame, State.untimedStep_untimed, ← hsame, ← State.untimedStep_untimed]
    exact State.microStep_untimed hstep

/-- A run of one more step is the step and the run after it. -/
theorem run_succ_iff {s t : State} {n : Nat} : Host.Core.run Sys2Proof.core (n + 1) s = .next t ↔
    ∃ s' : State, step s = .next s' ∧ Host.Core.run Sys2Proof.core n s' = .next t := by
  simp only [Host.Core.run]
  split
  case h_1 s' hs =>
    have hs : step s = .next s' := hs
    exact ⟨fun h => ⟨s', hs, h⟩, fun ⟨_, hs', h⟩ => by rw [hs] at hs'; cases hs'; exact h⟩
  case h_2 r hs =>
    have hs : step s = .fault r := hs
    simp [hs]
  case h_3 r hs =>
    have hs : step s = .refused r := hs
    simp [hs]

/-- The simulation: where the untimed run of a state that looks the same ends, there the timed one ends. -/
theorem run_untimed {u : State} (hu : u.busy = false) (n : Nat) : ∀ {s w t : State}, s.Underway →
    s.untimed = w.untimed → UntimedRun w u →
    (∀ k < n, ∃ v : State, Host.Core.run Sys2Proof.core k s = .next v ∧ v.busy = true) →
    Host.Core.run Sys2Proof.core n s = .next t → t.busy = false → t.untimed = u.untimed := by
  induction n with
  | zero =>
    intro s w t _ hsw hrun _ ht hidle
    cases ht
    have hw : w.busy = false := (congrArg State.busy hsw.symm).trans hidle
    rw [← hrun.eq_of_idle hw]
    exact hsw
  | succ n ih =>
    intro s w t hs hsw hrun hbusy ht hidle
    have hb : s.busy = true := by
      obtain ⟨v, hv, hvb⟩ := hbusy 0 (Nat.succ_pos n)
      cases hv
      exact hvb
    obtain ⟨s', hstep, ht'⟩ := run_succ_iff.mp ht
    have hbusy' : ∀ k < n, ∃ v : State, Host.Core.run Sys2Proof.core k s' = .next v ∧ v.busy = true := fun k hk => by
      obtain ⟨v, hv, hvb⟩ := hbusy (k + 1) (Nat.succ_lt_succ hk)
      obtain ⟨s'', hstep', hv'⟩ := run_succ_iff.mp hv
      rw [hstep] at hstep'
      cases hstep'
      exact ⟨v, hv', hvb⟩
    obtain ⟨hs', hsame | hmoved⟩ := hs.step_untimed hb hstep
    · exact ih hs' (hsame.trans hsw) hrun hbusy' ht' hidle
    · have hwb : w.busy = true := (congrArg State.busy hsw.symm).trans hb
      rw [State.untimedStep_untimed, hsw, ← State.untimedStep_untimed] at hmoved
      obtain ⟨w', hsw', hrun'⟩ := hrun.head_of_busy hwb hu hmoved
      exact ih hs' hsw' hrun' hbusy' ht' hidle

/-! ### The big step is the untimed run (R10) -/

/-- The state `s` at the beginning of item `k`. The big step does not count the items as the small steps do, so that CS
and PH are set apart here. -/
def State.atItem (s : State) (k : BitVec 4) : State := { s with cs := k, ph := .sClr }

@[simp] theorem program_atItem (s : State) (k : BitVec 4) (i : Instr) : program (s.atItem k) i = program s i := by
  cases i <;> rfl

theorem State.txw_atItem (s : State) (k : BitVec 4) (off val : Byte) :
    (s.atItem k).txw off val = (s.txw off val).atItem (k + 1) := by
  simp only [State.txw_eq, State.atItem]

theorem State.txr_atItem (s : State) (k : BitVec 4) (off : Byte) :
    (s.atItem k).txr off = (s.txr off).atItem (k + 1) := by
  simp only [State.txr_eq, State.atItem]

@[simp] theorem State.txw_sh (s : State) (off val : Byte) (r : RegSet) : (s.txw off val).sh r = s.sh r := by
  cases r <;> simp [State.sh]

/-- An untimed run of the command `i` from `s₀` has come to the beginning of item `k`, in the state `s`. -/
structure AtItem (i : Instr) (s₀ : State) (k : BitVec 4) (s : State) : Prop where
  run : UntimedRun s₀ (s.atItem k)
  busy : s.busy = true
  latched : decodeCmd s.latched = .ok i

section
variable {i : Instr} {s₀ s t : State} {k : BitVec 4}

/-- The first step of an item. -/
theorem AtItem.start (h : AtItem i s₀ k s) {item : Item} (hitem : (program s i)[k.toNat]? = some item)
    (ht : (s.atItem k).startItem item = .next t) : UntimedRun s₀ t := by
  have hstep : (s.atItem k).untimedStep = (s.atItem k).startItem item :=
    State.untimedStep_of_item rfl h.latched (by rw [program_atItem]; exact hitem)
  exact .tail h.run ⟨h.busy, hstep.trans ht⟩

/-- An item of one step that does not end the command leads to the next item. -/
theorem AtItem.next (h : AtItem i s₀ k s) {item : Item} (hitem : (program s i)[k.toNat]? = some item)
    (ht : (s.atItem k).startItem item = .next (t.atItem (k + 1))) (hbusy : t.busy = s.busy)
    (hlatched : t.latched = s.latched) : AtItem i s₀ (k + 1) t :=
  ⟨h.start hitem ht, hbusy.trans h.busy, (congrArg decodeCmd hlatched).trans h.latched⟩

/-- An untimed run from `s₀` has come to phase `ph` of a transaction with the given latches, in the state `s`. -/
structure AtPhase (s₀ : State) (ph : Phase) (rd : Bool) (off val : Byte) (s : State) : Prop where
  run : UntimedRun s₀ s
  busy : s.busy = true
  ph : s.ph = ph
  rd : s.tRd = rd
  off : s.tOff = off
  val : s.tVal = val

section
variable {rd : Bool} {off val : Byte}

theorem AtPhase.setTarget (h : AtPhase s₀ .sCmd rd off val s) : AtPhase s₀ .sSlv rd off val (s.setTarget off) :=
  ⟨.tail h.run ⟨h.busy, by rw [State.untimedStep_sCmd h.ph, h.off]⟩, h.busy, rfl, h.rd, h.off, h.val⟩

theorem AtPhase.addressForWrite (h : AtPhase s₀ .sSlv false off val s) :
    AtPhase s₀ .sDat false off val s.addressForWrite :=
  ⟨.tail h.run ⟨h.busy, State.untimedStep_sSlv_write h.ph h.rd⟩, h.busy, rfl, h.rd, h.off, h.val⟩

theorem AtPhase.addressForRead (h : AtPhase s₀ .sSlv true off val s) :
    AtPhase s₀ .sGo true off val s.addressForRead :=
  ⟨.tail h.run ⟨h.busy, State.untimedStep_sSlv_read h.ph h.rd⟩, h.busy, rfl, h.rd, h.off, h.val⟩

theorem AtPhase.setPayload (h : AtPhase s₀ .sDat rd off val s) : AtPhase s₀ .sGo rd off val (s.setPayload val) :=
  ⟨.tail h.run ⟨h.busy, by rw [State.untimedStep_sDat h.ph, h.val]⟩, h.busy, rfl, h.rd, h.off, h.val⟩

theorem AtPhase.startTransfer (h : AtPhase s₀ .sGo rd off val s) : AtPhase s₀ .sWait rd off val s.startTransfer :=
  ⟨.tail h.run ⟨h.busy, State.untimedStep_sGo h.ph⟩, h.busy, rfl, h.rd, h.off, h.val⟩

theorem AtPhase.endWait (h : AtPhase s₀ .sWait true off val s) : AtPhase s₀ .sSmp true off val s.endWait := by
  have hrun : UntimedRun s₀ s.endWait := .tail h.run ⟨h.busy, State.untimedStep_sWait h.ph⟩
  rw [State.endWait_of_read h.rd] at hrun ⊢
  exact ⟨hrun, h.busy, rfl, h.rd, h.off, h.val⟩

end

/-- A write transaction, phase after phase, is TXW (R121, R123). -/
theorem AtItem.write (h : AtItem i s₀ k s) {off val : Byte}
    (hitem : (program s i)[k.toNat]? = some (.write off val)) : AtItem i s₀ (k + 1) (s.txw off val) where
  run := by
    have clr : AtPhase s₀ .sCmd false off val ((s.atItem k).loadWrite off val).clearStatus :=
      ⟨h.start hitem rfl, h.busy, rfl, rfl, rfl, rfl⟩
    have wait := clr.setTarget.addressForWrite.setPayload.startTransfer
    rw [← State.txw_atItem]
    exact .tail wait.run ⟨wait.busy, State.untimedStep_sWait wait.ph⟩
  busy := (State.txw_busy s off val).trans h.busy
  latched := by rw [State.txw_eq]; exact h.latched

/-- A read transaction, phase after phase, is TXR (R122, R123). -/
theorem AtItem.read (h : AtItem i s₀ k s) {off : Byte}
    (hitem : (program s i)[k.toNat]? = some (.read off)) : AtItem i s₀ (k + 1) (s.txr off) where
  run := by
    have clr : AtPhase s₀ .sCmd true off s.tVal ((s.atItem k).loadRead off).clearStatus :=
      ⟨h.start hitem rfl, h.busy, rfl, rfl, rfl, rfl⟩
    have smp := clr.setTarget.addressForRead.startTransfer.endWait
    rw [← State.txr_atItem]
    exact .tail smp.run ⟨smp.busy, State.untimedStep_sSmp smp.ph⟩
  busy := (State.txr_busy s off).trans h.busy
  latched := by rw [State.txr_eq]; exact h.latched

/-- A shadow takes its byte (R158). -/
theorem AtItem.shadow (h : AtItem i s₀ k s) {r : RegSet} {v : Byte}
    (hitem : (program s i)[k.toNat]? = some (.shadow r v)) : AtItem i s₀ (k + 1) (s.setSh r v) := by
  cases r <;> exact h.next hitem rfl rfl rfl

/-- IN0 or IN1 takes the sampled byte (R185). -/
theorem AtItem.keep (h : AtItem i s₀ k s) {r : RegSet}
    (hitem : (program s i)[k.toNat]? = some (.keep r)) : AtItem i s₀ (k + 1) (s.keepSample r) := by
  cases r <;> exact h.next hitem rfl rfl rfl

theorem AtItem.enterOutput (h : AtItem i s₀ k s) (hitem : (program s i)[k.toNat]? = some .enterOutput) :
    AtItem i s₀ (k + 1) s.enterOutput := h.next hitem rfl rfl rfl

theorem AtItem.enterInput (h : AtItem i s₀ k s) (hitem : (program s i)[k.toNat]? = some .enterInput) :
    AtItem i s₀ (k + 1) s.enterInput := h.next hitem rfl rfl rfl

theorem AtItem.zeroShadows (h : AtItem i s₀ k s) (hitem : (program s i)[k.toNat]? = some .zeroShadows) :
    AtItem i s₀ (k + 1) s.zeroShadows := h.next hitem rfl rfl rfl

theorem AtItem.showLevels (h : AtItem i s₀ k s) (hitem : (program s i)[k.toNat]? = some .showLevels) :
    AtItem i s₀ (k + 1) s.showLevels := h.next hitem rfl rfl rfl

/-- The response ends the command (R28). -/
theorem AtItem.respond (h : AtItem i s₀ k s) {d : Byte} (hitem : (program s i)[k.toNat]? = some (.respond d)) :
    UntimedRun s₀ (s.respond .ok d) := h.start hitem rfl

/-- A guard that rejects ends the command (R184, R211). -/
theorem AtItem.reject (h : AtItem i s₀ k s) {rejected : Bool}
    (hitem : (program s i)[k.toNat]? = some (.guard rejected)) (hr : rejected = true) :
    UntimedRun s₀ (s.raise .invalidOp) := by
  subst hr
  exact h.start hitem rfl

/-- A guard that does not reject is passed. -/
theorem AtItem.pass (h : AtItem i s₀ k s) {rejected : Bool}
    (hitem : (program s i)[k.toNat]? = some (.guard rejected)) (hr : rejected = false) : AtItem i s₀ (k + 1) s := by
  subst hr
  exact h.next hitem rfl rfl rfl

theorem State.endTick_atItem (s : State) (k : BitVec 4) : (s.atItem k).endTick = s.endTick := by
  cases h : s.cSrc
  · rw [State.endTick_of_host h, State.endTick_of_host (s := s.atItem k) h]; rfl
  · rw [State.endTick_of_timer h, State.endTick_of_timer (s := s.atItem k) h]; rfl

/-- The end of TICK (R185). -/
theorem AtItem.endTick (h : AtItem i s₀ k s) (hitem : (program s i)[k.toNat]? = some .endTick) :
    UntimedRun s₀ s.endTick := h.start hitem (congrArg Host.Outcome.next (s.endTick_atItem k))

end

/-! One run for each command of more than one transaction. -/

section
variable {s : State}

theorem untimedRun_wrbit {p : LogicalPin} {b : Bool} (h : AtItem (.wrbit p b) s 0 s)
    (hg : s.pinWriteRejected = false) :
    UntimedRun s (((s.txw (s.pinOffset p) (s.pinByte p b)).setSh (s.cfg.pinMap.get p).set
      (s.pinByte p b)).respond .ok 0x00) := by
  have written := (h.pass rfl hg).write (off := s.pinOffset p) (val := s.pinByte p b) rfl
  exact (written.shadow (by simp [program, State.pinByte])).respond rfl

theorem untimedRun_allhi (h : AtItem .allhi s 0 s) (hg : s.bulkWriteRejected = false) :
    UntimedRun s (((((s.txw (offOut .set1) (s.allHigh .set1)).setSh .set1 (s.allHigh .set1)).txw (offOut .set2)
      (s.allHigh .set2)).setSh .set2 (s.allHigh .set2)).respond .ok 0x00) := by
  have set1 := ((h.pass rfl hg).write rfl).shadow (r := .set1) (v := s.allHigh .set1) (by simp [program, State.allHigh])
  have set2 := (set1.write (off := offOut .set2) (val := s.allHigh .set2) (by simp [program, State.allHigh])).shadow
    (r := .set2) (v := s.allHigh .set2) (by simp [program, State.allHigh])
  exact set2.respond rfl

theorem untimedRun_alllo (h : AtItem .alllo s 0 s) (hg : s.bulkWriteRejected = false) :
    UntimedRun s (((((s.txw (offOut .set1) 0x00).setSh .set1 0x00).txw (offOut .set2) 0x00).setSh .set2
      0x00).respond .ok 0x00) := by
  have set1 := ((h.pass rfl hg).write rfl).shadow rfl
  exact ((set1.write rfl).shadow rfl).respond rfl

theorem untimedRun_swout (h : AtItem .swout s 0 s) :
    UntimedRun s ((((s.txw (offDir .set1) 0xFF).txw (offDir .set2) 0xFF).enterOutput).respond .ok 0x01) := by
  exact (((h.write rfl).write rfl).enterOutput rfl).respond rfl

theorem untimedRun_swin {u : State} (h : AtItem .swin s 0 s) (hu : execSwin s = .next u) : UntimedRun s u := by
  have step1 := (h.write rfl).write rfl
  have step2 := step1.enterInput rfl
  have step3 := (step2.write rfl).write rfl
  have step4 := ((step3.zeroShadows rfl).write rfl).write rfl
  cases hu
  exact step4.respond rfl

theorem untimedRun_tick_skip (h : AtItem .tick s 0 s) (hm : s.mode = .output) : UntimedRun s s.endTick :=
  h.start (item := .modeTest true) (by simp [program, hm]) (congrArg Host.Outcome.next (s.endTick_atItem 0))

theorem untimedRun_tick (h : AtItem .tick s 0 s) (hm : s.mode ≠ .output) :
    UntimedRun s ((((((s.txr (offIn .set1)).keepSample .set1).txr (offIn .set2)).keepSample
      .set2).showLevels).endTick) := by
  have passed : AtItem .tick s 1 s := h.next (item := .modeTest false) (by simp [program, hm]) rfl rfl rfl
  have read0 := (passed.read rfl).keep rfl
  have read1 := (read0.read rfl).keep rfl
  exact (read1.showLevels rfl).endTick rfl

/-- The big step of a command is an untimed run of its micro-program to an idle block (R10). -/
theorem exec_untimedRun {i : Instr} {u : State} (h : AtItem i s 0 s) (hu : exec i s = .next u) :
    UntimedRun s u ∧ u.busy = false := by
  have hhost := hostIssuable_of_decodeCmd h.latched
  cases i with
  | wrreg off val => cases hu; exact ⟨(h.write rfl).respond rfl, rfl⟩
  | rdreg off => cases hu; exact ⟨(h.read rfl).respond rfl, rfl⟩
  | setdir r ao => cases hu; exact ⟨(h.write rfl).respond rfl, rfl⟩
  | wrbit p b =>
    cases hu
    cases hg : s.pinWriteRejected
    · exact ⟨untimedRun_wrbit h hg, rfl⟩
    · exact ⟨h.reject rfl hg, rfl⟩
  | rdin r => cases hu; exact ⟨(h.read rfl).respond rfl, rfl⟩
  | swout => cases hu; exact ⟨untimedRun_swout h, rfl⟩
  | swin =>
    refine ⟨untimedRun_swin h hu, ?_⟩
    cases hu
    rfl
  | allhi =>
    cases hu
    cases hg : s.bulkWriteRejected
    · exact ⟨untimedRun_allhi h hg, rfl⟩
    · exact ⟨h.reject rfl hg, rfl⟩
  | alllo =>
    cases hu
    cases hg : s.bulkWriteRejected
    · exact ⟨untimedRun_alllo h hg, rfl⟩
    · exact ⟨h.reject rfl hg, rfl⟩
  | tick =>
    cases hu
    by_cases hm : s.mode = .output
    · rw [if_pos hm]
      exact ⟨untimedRun_tick_skip h hm, State.endTick_busy _⟩
    · rw [if_neg hm]
      exact ⟨untimedRun_tick h hm, State.endTick_busy _⟩
  | _ => cases hhost

end

/-- An accepted command stands at its first item. -/
theorem State.accepted.atItem {s : State} {i : Instr} (h : s.accepted i) : AtItem i s 0 s := by
  obtain ⟨-, -, hbusy, hcs, hph, -, hlatched⟩ := h
  have hs : s.atItem 0 = s := by
    rw [State.atItem, ← hcs, ← hph]
  exact ⟨hs ▸ .refl, hbusy, hlatched⟩

/-- Settles O59: the timed run simulates the untimed one, which the big step is. -/
theorem smallStepRunIsTheBigStep : Obligations.SmallStepRunIsTheBigStep := by
  unfold Obligations.SmallStepRunIsTheBigStep
  intro i s t u n hacc hundisturbed hbusy hrun hidle hu
  obtain ⟨hexec, huidle⟩ := exec_untimedRun hacc.atItem hu
  obtain ⟨hen, -, -, -, -, hrsp, -⟩ := hacc
  exact run_untimed huidle n ⟨hen, fun _ => hrsp, hundisturbed⟩ rfl hexec hbusy hrun hidle

end Sys2Proof.Machine
end

section
/-! SUPPORT. Laws that the statements of 10_state.md share: the operations with a case distinction field by field, the
inversion of the clock step with what the timer and the command port said in it, and what the work of the block leaves
as it was. -/

namespace Sys2Proof.Machine

/-! ### Operations with a case distinction, field by field -/

/-- An exception is a response with data 0x00 (R210). -/
@[simp] theorem State.raise_eq (s : State) (cause : RspStatus) : s.raise cause = s.respond cause 0x00 := rfl

/-- The end of TICK touches the response and UPC alone, whoever is answered. -/
theorem State.endTick_eq (s : State) :
    s.endTick = { s with
      rspSt := s.endTick.rspSt, rspD := s.endTick.rspD, rspValid := s.endTick.rspValid
      responses := s.endTick.responses, busy := false, cs := 0, ph := .sClr } := by
  have hsrc : s.cSrc = .host ∨ s.cSrc = .timer := by cases s.cSrc <;> simp
  rcases hsrc with h | h
  · rw [State.endTick_of_host h]; rfl
  · rw [State.endTick_of_timer h]; rfl

@[simp] theorem State.endTick_mode (s : State) : s.endTick.mode = s.mode := by rw [State.endTick_eq]
@[simp] theorem State.endTick_sh0 (s : State) : s.endTick.sh0 = s.sh0 := by rw [State.endTick_eq]
@[simp] theorem State.endTick_sh1 (s : State) : s.endTick.sh1 = s.sh1 := by rw [State.endTick_eq]
@[simp] theorem State.endTick_cs (s : State) : s.endTick.cs = 0 := by rw [State.endTick_eq]
@[simp] theorem State.endTick_ph (s : State) : s.endTick.ph = .sClr := by rw [State.endTick_eq]
@[simp] theorem State.endTick_disp (s : State) : s.endTick.disp = s.disp := by rw [State.endTick_eq]
@[simp] theorem State.endTick_pollCnt (s : State) : s.endTick.pollCnt = s.pollCnt := by rw [State.endTick_eq]
@[simp] theorem State.endTick_pollEn (s : State) : s.endTick.pollEn = s.pollEn := by rw [State.endTick_eq]
@[simp] theorem State.endTick_cOp (s : State) : s.endTick.cOp = s.cOp := by rw [State.endTick_eq]
@[simp] theorem State.endTick_cA (s : State) : s.endTick.cA = s.cA := by rw [State.endTick_eq]
@[simp] theorem State.endTick_cB (s : State) : s.endTick.cB = s.cB := by rw [State.endTick_eq]
@[simp] theorem State.endTick_cSrc (s : State) : s.endTick.cSrc = s.cSrc := by rw [State.endTick_eq]
@[simp] theorem State.endTick_trace (s : State) : s.endTick.trace = s.trace := by rw [State.endTick_eq]
@[simp] theorem State.endTick_load (s : State) : s.endTick.load = s.load := by rw [State.endTick_eq]
@[simp] theorem State.endTick_released (s : State) : s.endTick.released = s.released := by rw [State.endTick_eq]
@[simp] theorem State.endTick_cmds (s : State) : s.endTick.cmds = s.cmds := by rw [State.endTick_eq]
@[simp] theorem State.endTick_env (s : State) : s.endTick.env = s.env := by rw [State.endTick_eq]

/-- The end of a wait touches TRACE and UPC alone. -/
theorem State.endWait_eq (s : State) :
    s.endWait = { s with trace := s.endWait.trace, cs := s.endWait.cs, ph := s.endWait.ph } := by
  rcases Bool.eq_false_or_eq_true s.tRd with h | h
  · rw [State.endWait_of_read h]; rfl
  · rw [State.endWait_of_write h]; rfl

/-- A clock step of the wait touches W_CNT, TRACE and UPC alone. -/
theorem State.waitStep_eq (s : State) (tu : Bool) :
    s.waitStep tu = { s with
      wCnt := (s.waitStep tu).wCnt, trace := (s.waitStep tu).trace
      cs := (s.waitStep tu).cs, ph := (s.waitStep tu).ph } := by
  rcases s.waitStep_cases tu with h | h | h <;> rw [h]
  rw [State.endWait_eq]

/-! ### The inversion of the clock step, with the tick and the words -/

/-- What a clock step that answers `t` has done: it was a reset, the block was not enabled, a command in progress made
one small step, nothing was there for an idle block, the tick was taken, or the first word at the port was. -/
inductive ClockStep (s t : State) : Prop where
  | reset (hrst : s.cycle.rst = true) (ht : t = (s.beginCycle.levels s.cycle).blockReset)
  | inert (hrst : s.cycle.rst = false) (hen : s.clocked.en = false) (ht : t = s.clocked)
  | busy (hrst : s.cycle.rst = false) (hen : s.clocked.en = true) (hbusy : s.busy = true)
      (hmicro : s.clocked.microStep s.cycle.tu = .next t)
  | idle (hrst : s.cycle.rst = false) (hen : s.clocked.en = true) (hbusy : s.busy = false)
      (hcmds : s.clocked.cmds = []) (ht : t = s.clocked)
  | tick (hrst : s.cycle.rst = false) (hen : s.clocked.en = true) (hbusy : s.busy = false)
      (hraised : (s.beginCycle.levels s.cycle).tickRaised s.cycle = true)
      (hfirst : s.clocked.cmds = [] ∨ s.cycle.tickFirst = true) (htick : s.clocked.takeTick = .next t)
  | word (w : CmdWord) (rest : List CmdWord) (hrst : s.cycle.rst = false) (hen : s.clocked.en = true)
      (hbusy : s.busy = false) (hcmds : s.clocked.cmds = w :: rest)
      (hfirst : (s.beginCycle.levels s.cycle).tickRaised s.cycle = true → s.cycle.tickFirst = false)
      (hword : s.clocked.takeCommand w rest = .next t)

@[simp] theorem State.clocked_busy (s : State) : s.clocked.busy = s.busy := by rw [State.clocked_eq]
@[simp] theorem State.clocked_mode (s : State) : s.clocked.mode = s.mode := by rw [State.clocked_eq]
@[simp] theorem State.clocked_sh0 (s : State) : s.clocked.sh0 = s.sh0 := by rw [State.clocked_eq]
@[simp] theorem State.clocked_sh1 (s : State) : s.clocked.sh1 = s.sh1 := by rw [State.clocked_eq]
@[simp] theorem State.clocked_sh (s : State) (r : RegSet) : s.clocked.sh r = s.sh r := by rw [State.clocked_eq]; rfl
@[simp] theorem State.clocked_disp (s : State) : s.clocked.disp = s.disp := by rw [State.clocked_eq]
@[simp] theorem State.clocked_latched (s : State) : s.clocked.latched = s.latched := by rw [State.clocked_eq]; rfl
@[simp] theorem State.clocked_cSrc (s : State) : s.clocked.cSrc = s.cSrc := by rw [State.clocked_eq]
@[simp] theorem State.clocked_trace (s : State) : s.clocked.trace = s.trace := by rw [State.clocked_eq]
@[simp] theorem State.clocked_responses (s : State) : s.clocked.responses = s.responses := by rw [State.clocked_eq]
@[simp] theorem State.clocked_inputs (s : State) : s.clocked.inputs = s.inputs.tail := by rw [State.clocked_eq]
@[simp] theorem State.clocked_cfg (s : State) : s.clocked.cfg = s.cfg := by rw [State.clocked_eq]
@[simp] theorem State.clocked_cmds (s : State) : s.clocked.cmds = s.cmds ++ s.cycle.cmd.toList := by
  rw [State.clocked_eq]
@[simp] theorem State.clocked_env (s : State) : s.clocked.env = s.env.drift s.cycle.chip := by rw [State.clocked_eq]

/-- Everything an enabled idle block can do in a clock step (R187, R217 (b), D27). -/
theorem State.idleStep_cases {s t : State} {tick tickFirst : Bool} (h : s.idleStep tick tickFirst = .next t) :
    (s.cmds = [] ∧ t = s) ∨ (tick = true ∧ (s.cmds = [] ∨ tickFirst = true) ∧ s.takeTick = .next t)
      ∨ ∃ w rest, s.cmds = w :: rest ∧ (tick = true → tickFirst = false) ∧ s.takeCommand w rest = .next t := by
  unfold State.idleStep at h
  split at h
  next hc =>
    split at h
    next ht => exact .inr (.inl ⟨ht, .inl hc, h⟩)
    next => exact .inl ⟨hc, by cases h; rfl⟩
  next w rest hc =>
    split at h
    next ht =>
      obtain ⟨ht, hf⟩ := Bool.and_eq_true_iff.mp ht
      exact .inr (.inl ⟨ht, .inr hf, h⟩)
    next ht => exact .inr (.inr ⟨w, rest, hc, fun hraised => by simpa [hraised] using ht, h⟩)

/-- A clock step with `rst` resets the block and does nothing else (R250). -/
theorem step_of_reset {s : State} (hforeign : s.cycle.foreign = false) (hrst : s.cycle.rst = true) :
    step s = .next (s.beginCycle.levels s.cycle).blockReset := by
  simp only [step, State.clock, hforeign, hrst, Bool.false_eq_true, if_false, if_true]

/-- Without EN the block does nothing in a clock step (R36, R212). -/
theorem step_of_disabled {s : State} (hforeign : s.cycle.foreign = false) (hrst : s.cycle.rst = false)
    (hen : s.clocked.en = false) : step s = .next s.clocked := by
  rw [step_eq_work hforeign hrst, State.work, if_neg (by rw [hen]; decide)]

/-- A step that answers is one of the six clock steps, and no other agent touches the ports in it. -/
theorem step_clockStep {s t : State} (h : step s = .next t) : s.cycle.foreign = false ∧ ClockStep s t := by
  obtain ⟨hforeign, ⟨hrst, ht⟩ | ⟨hrst, -⟩⟩ := step_cases h
  · exact ⟨hforeign, .reset hrst ht⟩
  · refine ⟨hforeign, ?_⟩
    cases hen : s.clocked.en with
    | false =>
      rw [step_of_disabled hforeign hrst hen] at h
      exact .inert hrst hen (Host.Outcome.next.inj h).symm
    | true =>
      cases hbusy : s.busy with
      | true => exact .busy hrst hen hbusy (by rw [← step_of_busy hforeign hrst hen hbusy, h])
      | false =>
        rw [step_of_idle hforeign hrst hen (by rw [State.clocked_busy, hbusy])] at h
        rcases State.idleStep_cases h with ⟨hc, rfl⟩ | ⟨hraised, hfirst, htick⟩ | ⟨w, rest, hc, hfirst, hword⟩
        · exact .idle hrst hen hbusy hc rfl
        · exact .tick hrst hen hbusy hraised hfirst htick
        · exact .word w rest hrst hen hbusy hc hfirst hword

/-- A taken tick runs TICK whole, or leaves it accepted (R10, R187). -/
theorem State.takeTick_cases {s t : State} (h : s.takeTick = .next t) :
    (s.grain = .big ∧ exec .tick (s.accept .timer tickWord) = .next t)
      ∨ (s.grain = .small ∧ t = s.accept .timer tickWord) := State.start_cases h

/-- A taken word is answered ILLEGAL_CMD, runs whole, or stands accepted (R10, R139 (a)). -/
theorem State.takeCommand_started {s t : State} {w : CmdWord} {rest : List CmdWord}
    (h : s.takeCommand w rest = .next t) :
    (∃ e, decodeCmd w = .error e ∧ t = State.respond { s with cmds := rest } .illegalCmd 0x00)
      ∨ ∃ i, decodeCmd w = .ok i ∧
        ((s.grain = .big ∧ exec i (State.accept { s with cmds := rest } .host w) = .next t)
          ∨ (s.grain = .small ∧ t = State.accept { s with cmds := rest } .host w)) := by
  rcases State.takeCommand_cases h with ⟨e, he, rfl⟩ | ⟨i, hi, hstart⟩
  · exact .inl ⟨e, he, rfl⟩
  · exact .inr ⟨i, hi, State.start_cases hstart⟩

/-! ### What stands around the block's own registers -/

/-- POLL_EN, POLL_CNT, LOADER's records, HOST's words and the latch are not for a command in progress to change. -/
structure State.SameAround (s t : State) : Prop where
  pollEn : t.pollEn = s.pollEn
  pollCnt : t.pollCnt = s.pollCnt
  load : t.load = s.load
  released : t.released = s.released
  cmds : t.cmds = s.cmds
  latched : t.latched = s.latched
  cSrc : t.cSrc = s.cSrc

theorem exec_sameAround {i : Instr} {s t : State} (h : exec i s = .next t) : s.SameAround t := by
  cases i with
  | wrbit | allhi | alllo | tick => cases h; split <;> constructor <;> simp [State.latched]
  | stClr | setCmd | setSlvW | setSlvR | setData | go | getData => cases h; exact ⟨rfl, rfl, rfl, rfl, rfl, rfl, rfl⟩
  | _ => cases h; constructor <;> simp [State.latched]

theorem State.startItem_sameAround {s t : State} {item : Item} (h : s.startItem item = .next t) : s.SameAround t := by
  cases item with
  | guard rejected => cases h; cases rejected <;> exact ⟨rfl, rfl, rfl, rfl, rfl, rfl, rfl⟩
  | modeTest skip => cases h; cases skip <;> constructor <;> simp [State.latched]
  | endTick => cases h; constructor <;> simp [State.latched]
  | shadow r v => cases h; cases r <;> exact ⟨rfl, rfl, rfl, rfl, rfl, rfl, rfl⟩
  | keep r => cases h; cases r <;> exact ⟨rfl, rfl, rfl, rfl, rfl, rfl, rfl⟩
  | _ => cases h; exact ⟨rfl, rfl, rfl, rfl, rfl, rfl, rfl⟩

theorem State.microStep_sameAround {s t : State} {tu : Bool} (h : s.microStep tu = .next t) : s.SameAround t := by
  rcases State.microStep_cases h with ⟨-, -, -, rfl⟩ | ⟨-, _, _, -, -, hitem⟩ | ⟨-, rfl⟩ | ⟨-, -, rfl⟩ | ⟨-, -, rfl⟩
    | ⟨-, rfl⟩ | ⟨-, rfl⟩ | ⟨-, rfl⟩ | ⟨-, rfl⟩
  case inr.inl => exact State.startItem_sameAround hitem
  case inr.inr.inr.inr.inr.inr.inr.inl => rw [State.waitStep_eq]; exact ⟨rfl, rfl, rfl, rfl, rfl, rfl, rfl⟩
  all_goals exact ⟨rfl, rfl, rfl, rfl, rfl, rfl, rfl⟩

/-- The enables, POLL_CNT and LOADER's records are the same. -/
structure State.SameLevels (s t : State) : Prop where
  en : t.en = s.en
  pollEn : t.pollEn = s.pollEn
  pollCnt : t.pollCnt = s.pollCnt
  load : t.load = s.load
  released : t.released = s.released

theorem State.SameLevels.refl (s : State) : s.SameLevels s := ⟨rfl, rfl, rfl, rfl, rfl⟩

theorem exec_sameLevels {i : Instr} {s t : State} (h : exec i s = .next t) : s.SameLevels t :=
  have hsame := exec_sameAround h
  ⟨(exec_sameOutside h).en, hsame.pollEn, hsame.pollCnt, hsame.load, hsame.released⟩

theorem State.microStep_sameLevels {s t : State} {tu : Bool} (h : s.microStep tu = .next t) : s.SameLevels t :=
  have hsame := State.microStep_sameAround h
  ⟨(State.microStep_sameOutside h).en, hsame.pollEn, hsame.pollCnt, hsame.load, hsame.released⟩

/-- Levels and timer are settled before the block works (R26, R36). -/
theorem step_sameLevels {s t : State} (h : step s = .next t) (hrst : s.cycle.rst = false) : s.clocked.SameLevels t := by
  obtain ⟨-, hclock⟩ := step_clockStep h
  cases hclock with
  | reset hr => rw [hrst] at hr; cases hr
  | inert _ _ ht | idle _ _ _ _ ht => rw [ht]; exact .refl _
  | busy _ _ _ hmicro => exact State.microStep_sameLevels hmicro
  | tick _ _ _ _ _ htick =>
    rcases State.takeTick_cases htick with ⟨-, hexec⟩ | ⟨-, rfl⟩
    · obtain ⟨hen, hpollEn, hpollCnt, hload, hreleased⟩ := exec_sameLevels hexec
      exact ⟨hen, hpollEn, hpollCnt, hload, hreleased⟩
    · exact ⟨rfl, rfl, rfl, rfl, rfl⟩
  | word _ _ _ _ _ _ _ hword =>
    rcases State.takeCommand_started hword with ⟨-, -, rfl⟩ | ⟨_, -, ⟨-, hexec⟩ | ⟨-, rfl⟩⟩
    · exact ⟨rfl, rfl, rfl, rfl, rfl⟩
    · obtain ⟨hen, hpollEn, hpollCnt, hload, hreleased⟩ := exec_sameLevels hexec
      exact ⟨hen, hpollEn, hpollCnt, hload, hreleased⟩
    · exact ⟨rfl, rfl, rfl, rfl, rfl⟩

/-- EN, POLL_EN and LOADER's records after a step are those of the input levels in it, a reset not excepted (R26, R36,
log entries 1 and 20). -/
theorem step_levels {s t : State} (h : step s = .next t) :
    t.en = (s.beginCycle.levels s.cycle).en ∧ t.pollEn = (s.beginCycle.levels s.cycle).pollEn
      ∧ t.load = (s.beginCycle.levels s.cycle).load ∧ t.released = (s.beginCycle.levels s.cycle).released := by
  cases hrst : s.cycle.rst with
  | true =>
    rw [step_of_reset (step_clockStep h).1 hrst] at h
    cases h
    exact ⟨rfl, rfl, rfl, rfl⟩
  | false =>
    obtain ⟨hen, hpollEn, -, hload, hreleased⟩ := step_sameLevels h hrst
    rw [hen, hpollEn, hload, hreleased, State.clocked]
    simp

end Sys2Proof.Machine
end

section
/-! PROOFS. The writers of MODE, SH and DISP (O32, O34, O35) of 10_state.md. An instruction and an item of
a micro-program are each shown once to change these registers in their named cases alone. -/

namespace Sys2Proof

/-- The four commands that write SH (R22). -/
def Instr.writesShadows : Instr → Bool
  | .wrbit _ _ | .swin | .allhi | .alllo => true
  | _ => false

theorem Instr.writesShadows_iff (i : Instr) :
    i.writesShadows = true ↔ (∃ p h, i = .wrbit p h) ∨ i = .allhi ∨ i = .alllo ∨ i = .swin := by
  cases i <;> simp [Instr.writesShadows]

/-- The two commands that write DISP (R25, R188). -/
def Instr.writesDisplay : Instr → Bool
  | .tick | .swout => true
  | _ => false

theorem Instr.writesDisplay_iff (i : Instr) : i.writesDisplay = true ↔ i = .tick ∨ i = .swout := by
  cases i <;> simp [Instr.writesDisplay]

end Sys2Proof

namespace Sys2Proof.Machine

/-! ### The writers among the instructions -/

theorem State.sh_eq_iff (s t : State) : (∀ r, t.sh r = s.sh r) ↔ t.sh0 = s.sh0 ∧ t.sh1 = s.sh1 :=
  ⟨fun h => ⟨h .set1, h .set2⟩, fun h r => by cases r; exacts [h.1, h.2]⟩

/-- MODE is written by SWOUT and SWIN alone (R21, R180). -/
theorem exec_mode {i : Instr} {s t : State} (h : exec i s = .next t) (hout : i ≠ .swout) (hin : i ≠ .swin) :
    t.mode = s.mode := by
  cases i with
  | swout => exact absurd rfl hout
  | swin => exact absurd rfl hin
  | wrbit | allhi | alllo | tick => cases h; split <;> simp
  | stClr | setCmd | setSlvW | setSlvR | setData | go | getData => cases h; rfl
  | _ => cases h; simp

/-- DISP is written by TICK and SWOUT alone (R25, R188). -/
theorem exec_disp {i : Instr} {s t : State} (h : exec i s = .next t) (hi : i.writesDisplay = false) :
    t.disp = s.disp := by
  cases i with
  | tick | swout => cases hi
  | wrbit | allhi | alllo => cases h; split <;> simp
  | stClr | setCmd | setSlvW | setSlvR | setData | go | getData => cases h; rfl
  | _ => cases h; simp

/-- SH is written by its four commands alone (R22). -/
theorem exec_sh {i : Instr} {s t : State} (h : exec i s = .next t) (hi : i.writesShadows = false) (r : RegSet) :
    t.sh r = s.sh r := by
  refine (State.sh_eq_iff s t).mpr ?_ r
  cases i with
  | wrbit | swin | allhi | alllo => cases hi
  | tick => cases h; split <;> simp
  | stClr | setCmd | setSlvW | setSlvR | setData | go | getData => cases h; exact ⟨rfl, rfl⟩
  | _ => cases h; simp

/-- Settles O32: one lemma for each register, and the frame of what stands around the block. -/
theorem registersHaveOnlyTheirNamedWriters : Obligations.RegistersHaveOnlyTheirNamedWriters := by
  unfold Obligations.RegistersHaveOnlyTheirNamedWriters
  intro i s t h
  have hout := exec_sameOutside h
  have hsame := exec_sameAround h
  refine ⟨exec_mode h, fun hbit hhi hlo hin => ?_, fun htick hswout => exec_disp h ?_, hout.en, hsame.pollEn,
    hsame.load, hsame.released, hsame.cmds, hout.inputs, hsame.pollCnt, hout.cfg, hout.grain⟩
  · refine (State.sh_eq_iff s t).mp (exec_sh h ?_)
    rw [Bool.eq_false_iff, Ne, Instr.writesShadows_iff]
    rintro (⟨p, b, hi⟩ | hi | hi | hi)
    exacts [hbit p b hi, hhi hi, hlo hi, hin hi]
  · rw [Bool.eq_false_iff, Ne, Instr.writesDisplay_iff]
    rintro (hi | hi)
    exacts [htick hi, hswout hi]

/-- Settles O35: WRBIT, and ALLHI and ALLLO where they are guarded, are rejected in Input mode; the other commands
but SWIN do not write the shadows. -/
theorem guardedInputModeKeepsTheShadows : Obligations.GuardedInputModeKeepsTheShadows := by
  unfold Obligations.GuardedInputModeKeepsTheShadows
  intro i s t hmode hguarded h hin
  have hpin : s.pinWriteRejected = true := by simp [State.pinWriteRejected, hmode]
  have hbulk : s.bulkWriteRejected = true := by simp [State.bulkWriteRejected, hmode, hguarded]
  cases hi : i.writesShadows with
  | false => exact (State.sh_eq_iff s t).mp (exec_sh h hi)
  | true =>
    rcases (Instr.writesShadows_iff i).mp hi with ⟨p, b, rfl⟩ | rfl | rfl | rfl
    · cases h; rw [if_pos hpin]; exact ⟨rfl, rfl⟩
    · cases h; rw [if_pos hbulk]; exact ⟨rfl, rfl⟩
    · cases h; rw [if_pos hbulk]; exact ⟨rfl, rfl⟩
    · exact absurd rfl hin

/-! ### The writers among the items -/

/-- An item that is a shadow's byte or zeroes both shadows. -/
def Item.writesShadows : Item → Bool
  | .shadow _ _ | .zeroShadows => true
  | _ => false

/-- An item that blanks the display or shows levels. -/
def Item.writesDisplay : Item → Bool
  | .enterOutput | .showLevels => true
  | _ => false

theorem State.startItem_sh {s t : State} {item : Item} (h : s.startItem item = .next t)
    (hitem : item.writesShadows = false) (r : RegSet) : t.sh r = s.sh r := by
  refine (State.sh_eq_iff s t).mpr ?_ r
  cases item with
  | shadow | zeroShadows => cases hitem
  | guard rejected => cases h; cases rejected <;> exact ⟨rfl, rfl⟩
  | modeTest skip => cases h; cases skip <;> simp
  | endTick => cases h; simp
  | keep r => cases h; simp
  | _ => cases h; exact ⟨rfl, rfl⟩

theorem State.startItem_disp {s t : State} {item : Item} (h : s.startItem item = .next t)
    (hitem : item.writesDisplay = false) : t.disp = s.disp := by
  cases item with
  | enterOutput | showLevels => cases hitem
  | guard rejected => cases h; cases rejected <;> rfl
  | modeTest skip => cases h; cases skip <;> simp
  | endTick => cases h; simp
  | keep r => cases h; simp
  | shadow r v => cases h; simp
  | _ => cases h; rfl

/-- The items that write a shadow stand in the commands that do, and in each of these one does. -/
theorem program_any_writesShadows (s : State) (i : Instr) :
    (program s i).any Item.writesShadows = i.writesShadows := by
  cases i <;> rfl

/-- The items that write the display stand in the commands that do, and in each of these one does. -/
theorem program_any_writesDisplay (s : State) (i : Instr) :
    (program s i).any Item.writesDisplay = i.writesDisplay := by
  cases i <;> rfl

/-! ### The writers among the clock steps -/

/-- MODE, SH, DISP and the parameters are the same. -/
structure State.SameRegisters (s t : State) : Prop where
  mode : t.mode = s.mode
  sh : ∀ r, t.sh r = s.sh r
  disp : t.disp = s.disp
  cfg : t.cfg = s.cfg

theorem State.SameRegisters.trans {s t u : State} (h : s.SameRegisters t) (h' : t.SameRegisters u) :
    s.SameRegisters u :=
  ⟨h'.mode.trans h.mode, fun r => (h'.sh r).trans (h.sh r), h'.disp.trans h.disp, h'.cfg.trans h.cfg⟩

theorem State.accept_sameRegisters (s : State) (src : Source) (w : CmdWord) : s.SameRegisters (s.accept src w) :=
  ⟨rfl, fun _ => rfl, rfl, rfl⟩

theorem State.clocked_sameRegisters (s : State) : s.SameRegisters s.clocked :=
  ⟨s.clocked_mode, s.clocked_sh, s.clocked_disp, s.clocked_cfg⟩

/-- Only the first step of an item can change MODE, SH or DISP (R24). -/
theorem State.microStep_registers {s t : State} {tu : Bool} (h : s.microStep tu = .next t) :
    s.SameRegisters t
      ∨ ∃ i item, decodeCmd s.latched = .ok i ∧ item ∈ program s i ∧ s.startItem item = .next t := by
  rcases State.microStep_cases h with ⟨-, -, -, rfl⟩ | ⟨-, i, item, hd, hitem, hstart⟩ | ⟨-, rfl⟩ | ⟨-, -, rfl⟩
    | ⟨-, -, rfl⟩ | ⟨-, rfl⟩ | ⟨-, rfl⟩ | ⟨-, rfl⟩ | ⟨-, rfl⟩
  case inr.inl => exact .inr ⟨i, item, hd, List.mem_of_getElem? hitem, hstart⟩
  case inr.inr.inr.inr.inr.inr.inr.inl => rw [State.waitStep_eq]; exact .inl ⟨rfl, fun _ => rfl, rfl, rfl⟩
  all_goals exact .inl ⟨rfl, fun _ => rfl, rfl, rfl⟩

/-- In a busy block the command worked on is the latched one, in an idle one that of the first word. -/
theorem State.current_of_busy {s : State} {i : Instr} (hb : s.busy = true) (hd : decodeCmd s.latched = .ok i) :
    s.current = some i := by
  rw [State.current, if_pos hb, hd]; rfl

theorem State.current_of_word {s : State} {i : Instr} {w : CmdWord} {rest : List CmdWord} (hb : s.busy = false)
    (hc : s.clocked.cmds = w :: rest) (hd : decodeCmd w = .ok i) : s.current = some i := by
  have hcmds : (s.beginCycle.levels s.cycle).cmds = w :: rest := (State.countPoll_cmds _ _).symm.trans hc
  simp only [State.current, hb, hcmds, hd, Bool.false_eq_true, if_false]
  rfl

/-- What a step without reset can do to MODE, SH and DISP: nothing, what an item of the current command does, or what
an instruction does that is the current command or a tick's TICK. -/
theorem step_registers {s t : State} (h : step s = .next t) (hrst : s.cycle.rst = false) :
    s.SameRegisters t
      ∨ (∃ i item, s.current = some i ∧ item ∈ program s.clocked i ∧ s.clocked.startItem item = .next t)
      ∨ ∃ i u, (s.current = some i ∨ i = .tick ∧ s.tickComing) ∧ s.SameRegisters u ∧ exec i u = .next t := by
  obtain ⟨-, hclock⟩ := step_clockStep h
  have hsame := s.clocked_sameRegisters
  cases hclock with
  | reset hr => rw [hrst] at hr; cases hr
  | inert _ _ ht => exact .inl (ht ▸ hsame)
  | idle _ _ _ _ ht => exact .inl (ht ▸ hsame)
  | busy _ _ hbusy hmicro =>
    rcases State.microStep_registers hmicro with hregs | ⟨i, item, hd, hitem, hstart⟩
    · exact .inl (hsame.trans hregs)
    · rw [State.clocked_latched] at hd
      exact .inr (.inl ⟨i, item, State.current_of_busy hbusy hd, hitem, hstart⟩)
  | tick _ _ hbusy hraised _ htick =>
    rcases State.takeTick_cases htick with ⟨-, hexec⟩ | ⟨-, rfl⟩
    · exact .inr (.inr ⟨.tick, _, .inr ⟨rfl, hbusy, hraised⟩, hsame.trans (State.accept_sameRegisters _ _ _), hexec⟩)
    · exact .inl (hsame.trans (State.accept_sameRegisters _ _ _))
  | word w rest _ _ hbusy hcmds _ hword =>
    have hwaiting : s.SameRegisters { s.clocked with cmds := rest } := hsame.trans ⟨rfl, fun _ => rfl, rfl, rfl⟩
    rcases State.takeCommand_started hword with ⟨-, -, rfl⟩ | ⟨i, hd, ⟨-, hexec⟩ | ⟨-, rfl⟩⟩
    · exact .inl (hwaiting.trans ⟨rfl, fun _ => rfl, rfl, rfl⟩)
    · exact .inr (.inr ⟨i, _, .inl (State.current_of_word hbusy hcmds hd),
        hwaiting.trans (State.accept_sameRegisters _ _ _), hexec⟩)
    · exact .inl (hwaiting.trans (State.accept_sameRegisters _ _ _))

/-- A step without reset that changes SH is one of a command that writes it. -/
theorem step_sh {s t : State} (h : step s = .next t) (hrst : s.cycle.rst = false) :
    (∀ r, t.sh r = s.sh r) ∨ ∃ i, s.current = some i ∧ i.writesShadows = true := by
  rcases step_registers h hrst with hsame | ⟨i, item, hcurrent, hitem, hstart⟩ | ⟨i, u, hcurrent, hsame, hexec⟩
  · exact .inl hsame.sh
  · cases hi : item.writesShadows with
    | false => exact .inl fun r => (State.startItem_sh hstart hi r).trans (s.clocked_sh r)
    | true => exact .inr ⟨i, hcurrent, program_any_writesShadows s.clocked i ▸ List.any_eq_true.mpr ⟨item, hitem, hi⟩⟩
  · cases hi : i.writesShadows with
    | false => exact .inl fun r => (exec_sh hexec hi r).trans (hsame.sh r)
    | true =>
      rcases hcurrent with hcurrent | ⟨rfl, -⟩
      · exact .inr ⟨i, hcurrent, hi⟩
      · cases hi

/-- A step without reset that changes DISP is one of a command that writes it, or a tick is raised. -/
theorem step_disp {s t : State} (h : step s = .next t) (hrst : s.cycle.rst = false) :
    t.disp = s.disp ∨ s.tickComing ∨ ∃ i, s.current = some i ∧ i.writesDisplay = true := by
  rcases step_registers h hrst with hsame | ⟨i, item, hcurrent, hitem, hstart⟩ | ⟨i, u, hcurrent, hsame, hexec⟩
  · exact .inl hsame.disp
  · cases hi : item.writesDisplay with
    | false => exact .inl ((State.startItem_disp hstart hi).trans s.clocked_disp)
    | true =>
      exact .inr (.inr ⟨i, hcurrent, program_any_writesDisplay s.clocked i ▸ List.any_eq_true.mpr ⟨item, hitem, hi⟩⟩)
  · cases hi : i.writesDisplay with
    | false => exact .inl ((exec_disp hexec hi).trans hsame.disp)
    | true => exact .inr (hcurrent.symm.imp (·.2) fun hcurrent => ⟨i, hcurrent, hi⟩)

/-- Settles O34: what a step without reset changes is written by the current command, or by the TICK of a tick. -/
theorem shadowsAndDisplayChangeOnlyInTheirCommands : Obligations.ShadowsAndDisplayChangeOnlyInTheirCommands := by
  unfold Obligations.ShadowsAndDisplayChangeOnlyInTheirCommands
  refine fun s t h hrst => ⟨fun hchanged => ?_, fun hchanged => ?_⟩
  · rcases step_sh h hrst with hsh | ⟨i, hcurrent, hi⟩
    · exact absurd hchanged (by simpa [not_or] using (State.sh_eq_iff s t).mp hsh)
    · rcases (Instr.writesShadows_iff i).mp hi with ⟨p, b, rfl⟩ | rfl | rfl | rfl
      exacts [.inl ⟨p, b, hcurrent⟩, .inr (.inl hcurrent), .inr (.inr (.inl hcurrent)), .inr (.inr (.inr hcurrent))]
  · rcases step_disp h hrst with hdisp | hcoming | ⟨i, hcurrent, hi⟩
    · exact absurd hdisp hchanged
    · exact .inr (.inr hcoming)
    · rcases (Instr.writesDisplay_iff i).mp hi with rfl | rfl
      exacts [.inl hcurrent, .inr (.inl hcurrent)]

end Sys2Proof.Machine
end

section
/-! PROOFS. PINMASK and the pin maps (O26), and the shadows' mapped bits (O53), of 10_state.md. -/

namespace Sys2Proof.Machine

/-! ### PINMASK bit by bit (R34) -/

/-- `1 << b` has bit b and no other (R98). -/
theorem getLsbD_bitMask (b k : Fin 8) : (bitMask b).getLsbD k = true ↔ b = k := by
  revert b k; decide

/-- The mask with one more pin, if the pin is of the set. -/
def addPin (r : RegSet) (acc : Byte) (pos : PinPos) : Byte :=
  if pos.set = r then acc ||| bitMask pos.bit else acc

theorem getLsbD_addPin (r : RegSet) (acc : Byte) (pos : PinPos) (k : Fin 8) :
    (addPin r acc pos).getLsbD k = true ↔ acc.getLsbD k = true ∨ pos = ⟨r, k⟩ := by
  obtain ⟨set, bit⟩ := pos
  by_cases hset : set = r
  · rw [addPin, if_pos hset, BitVec.getLsbD_or, Bool.or_eq_true, getLsbD_bitMask, PinPos.mk.injEq]
    simp [hset]
  · rw [addPin, if_neg hset, PinPos.mk.injEq]
    simp [hset]

theorem getLsbD_foldl_addPin (r : RegSet) (k : Fin 8) (pins : List PinPos) (acc : Byte) :
    (pins.foldl (addPin r) acc).getLsbD k = true ↔ acc.getLsbD k = true ∨ PinPos.mk r k ∈ pins := by
  induction pins generalizing acc with
  | nil => simp
  | cons pos pins ih => rw [List.foldl_cons, ih, getLsbD_addPin, List.mem_cons, or_assoc, eq_comm (a := pos)]

/-- PINMASK has exactly the bits at which a pin of the set stands. -/
theorem getLsbD_pinMask (m : PinMap) (r : RegSet) (k : Fin 8) :
    (pinMask m r).getLsbD k = true ↔ PinPos.mk r k ∈ m.toList := by
  have hfold : pinMask m r = m.toList.foldl (addPin r) 0 := rfl
  rw [hfold, getLsbD_foldl_addPin]
  simp

/-- A byte is zero if none of its eight bits is set. -/
theorem byte_eq_zero {v : Byte} (h : ∀ k : Fin 8, v.getLsbD k ≠ true) : v = 0 :=
  BitVec.eq_of_getLsbD_eq fun k hk => by simpa using h ⟨k, hk⟩

theorem PerPin.get_mem_toList {α : Type} (x : PerPin α) (p : LogicalPin) : x.get p ∈ x.toList := by
  match p with
  | 0 | 1 | 2 | 3 | 4 | 5 | 6 | 7 => simp [PerPin.get, PerPin.toList]

/-- No pin of an admissible map stands at bit 3 or 5 (R33). -/
theorem PinMap.admissible_bit {m : PinMap} (h : m.admissible = true) {pos : PinPos} (hpos : pos ∈ m.toList) :
    pos.bit ≠ 3 ∧ pos.bit ≠ 5 := by
  simp only [PinMap.admissible, Bool.and_eq_true, List.all_eq_true, bne_iff_ne] at h
  exact h.1.2 pos hpos

/-- 0x28 has the bits 3 and 5 alone. -/
theorem getLsbD_bits_three_five (k : Fin 8) : (0x28 : Byte).getLsbD k = true ↔ k = 3 ∨ k = 5 := by
  revert k; decide

theorem pinMask_and_bits_three_five {m : PinMap} (h : m.admissible = true) (r : RegSet) :
    pinMask m r &&& 0x28 = 0 :=
  byte_eq_zero fun k hk => by
    rw [BitVec.getLsbD_and, Bool.and_eq_true, getLsbD_pinMask, getLsbD_bits_three_five] at hk
    obtain ⟨hpin, hbit⟩ := hk
    obtain ⟨h3, h5⟩ := PinMap.admissible_bit h hpin
    exact hbit.elim h3 h5

/-- Bits 3 and 5 of the sampled bytes reach no pin of an admissible map (R155, R185). -/
theorem pinLevel_of_admissible {m : PinMap} (h : m.admissible = true) (p : LogicalPin) :
    pinLevel 0x28 0x28 (m.get p) = .low := by
  obtain ⟨h3, h5⟩ := PinMap.admissible_bit h (PerPin.get_mem_toList m p)
  have hlow : ∀ b : Fin 8, b ≠ 3 → b ≠ 5 → levelOf (bitHigh 0x28 b) = .low := by decide
  unfold pinLevel
  split <;> exact hlow _ h3 h5

theorem PinMap.reference_admissible : PinMap.reference.admissible = true := by decide

/-- The machine's own map is admissible whatever the free eight pairs are (log entry 4). -/
theorem Config.pinMap_admissible : Config.pinMap.admissible = true := by
  unfold Config.pinMap
  split
  next h => exact h
  next => exact PinMap.reference_admissible

/-- Settles O26: PINMASK and the pins of an admissible map are where the map says. -/
theorem admissiblePinMapsAvoidBitsThreeAndFive : Obligations.AdmissiblePinMapsAvoidBitsThreeAndFive := by
  unfold Obligations.AdmissiblePinMapsAvoidBitsThreeAndFive
  exact ⟨fun _ r h => pinMask_and_bits_three_five h r, fun _ p h => pinLevel_of_admissible h p,
    PinMap.reference_admissible, by decide, by decide, Config.pinMap_admissible⟩

/-! ### The mapped bits of the shadows (R34, R35 (c)) -/

/-- A pin's bit is in its set's mask (R34). -/
theorem bitMask_subset_pinMask (m : PinMap) (p : LogicalPin) :
    bitMask (m.get p).bit &&& ~~~(pinMask m (m.get p).set) = 0 :=
  byte_eq_zero fun k hk => by
    rw [BitVec.getLsbD_and, Bool.and_eq_true, getLsbD_bitMask] at hk
    obtain ⟨rfl, hk⟩ := hk
    have hmapped := (getLsbD_pinMask m (m.get p).set (m.get p).bit).mpr (PerPin.get_mem_toList m p)
    rw [BitVec.getLsbD_not, hmapped] at hk
    simp at hk

/-- A bit of the mask set or cleared leaves a byte within the mask. -/
theorem withBit_subset {v mask : Byte} {b : Fin 8} (hv : v &&& ~~~mask = 0) (hb : bitMask b &&& ~~~mask = 0)
    (high : Bool) : withBit v b high &&& ~~~mask = 0 := by
  cases high with
  | true =>
    show (v ||| bitMask b) &&& ~~~mask = 0
    rw [BitVec.and_comm, BitVec.and_or_distrib_left, BitVec.and_comm, hv, BitVec.and_comm, hb]
    rfl
  | false =>
    show v &&& ~~~(bitMask b) &&& ~~~mask = 0
    rw [BitVec.and_assoc, BitVec.and_comm (~~~(bitMask b)), ← BitVec.and_assoc, hv]
    exact BitVec.zero_and

/-- What a shadow can hold after a step: what it held, what a pin write makes of that, ALL_HIGH_BYTE, or 0x00. -/
inductive State.ShadowByte (s : State) : RegSet → Byte → Prop where
  | kept (r : RegSet) : s.ShadowByte r (s.sh r)
  | pin (p : LogicalPin) (high : Bool) : s.ShadowByte (s.cfg.pinMap.get p).set (s.pinByte p high)
  | high (r : RegSet) : s.ShadowByte r (s.allHigh r)
  | zero (r : RegSet) : s.ShadowByte r 0x00

theorem State.ShadowByte.of_eq {s : State} {r : RegSet} {v : Byte} (h : v = s.sh r) : s.ShadowByte r v :=
  h ▸ .kept r

/-- The shadow of one set after a write to it or to the other. -/
theorem State.ShadowByte.setSh {s t : State} {r' : RegSet} {v : Byte} (h : ∀ r, s.ShadowByte r (t.sh r))
    (hv : s.ShadowByte r' v) (r : RegSet) : s.ShadowByte r ((t.setSh r' v).sh r) := by
  rw [State.setSh_sh]
  split
  next hr => exact hr ▸ hv
  next => exact h r

theorem State.respond_sh (s : State) (st : RspStatus) (d : Byte) (r : RegSet) : (s.respond st d).sh r = s.sh r := rfl

theorem exec_shadowByte {i : Instr} {s t : State} (h : exec i s = .next t) (r : RegSet) :
    s.ShadowByte r (t.sh r) := by
  have hkept : ∀ off val r, s.ShadowByte r ((s.txw off val).sh r) := fun off val r =>
    .of_eq (State.txw_sh s off val r)
  cases hi : i.writesShadows with
  | false => exact .of_eq (exec_sh h hi r)
  | true =>
    rcases (Instr.writesShadows_iff i).mp hi with ⟨p, b, rfl⟩ | rfl | rfl | rfl
    · cases h
      split
      · exact .kept r
      · rw [State.respond_sh]
        exact State.ShadowByte.setSh (hkept _ _) (.pin p b) r
    · cases h
      split
      · exact .kept r
      · rw [State.respond_sh]
        refine State.ShadowByte.setSh (fun r => ?_) (.high .set2) r
        rw [State.txw_sh]
        exact State.ShadowByte.setSh (hkept _ _) (.high .set1) r
    · cases h
      split
      · exact .kept r
      · rw [State.respond_sh]
        refine State.ShadowByte.setSh (fun r => ?_) (.zero .set2) r
        rw [State.txw_sh]
        exact State.ShadowByte.setSh (hkept _ _) (.zero .set1) r
    · cases h
      rw [State.respond_sh, State.txw_sh, State.txw_sh]
      cases r <;> exact .zero _

/-- The bytes that the shadow items of the micro-programs hold (R24). -/
theorem program_shadow {s : State} {i : Instr} {r : RegSet} {v : Byte} (h : .shadow r v ∈ program s i) :
    s.ShadowByte r v := by
  cases i with
  | wrbit p b =>
    obtain ⟨rfl, rfl⟩ : r = (s.cfg.pinMap.get p).set ∧ v = s.pinByte p b := by simpa [program] using h
    exact .pin p b
  | allhi =>
    have hv : v = s.allHigh r := by
      simp only [program, List.mem_cons, Item.shadow.injEq, reduceCtorEq, List.not_mem_nil, false_or, or_false] at h
      rcases h with ⟨rfl, rfl⟩ | ⟨rfl, rfl⟩ <;> rfl
    exact hv ▸ .high r
  | alllo =>
    have hv : v = 0x00 := by
      simp only [program, List.mem_cons, Item.shadow.injEq, reduceCtorEq, List.not_mem_nil, false_or, or_false] at h
      rcases h with ⟨rfl, rfl⟩ | ⟨rfl, rfl⟩ <;> rfl
    exact hv ▸ .zero r
  | _ => simp [program] at h

theorem startItem_shadowByte {i : Instr} {item : Item} {s t : State} (h : s.startItem item = .next t)
    (hitem : item ∈ program s i) (r : RegSet) : s.ShadowByte r (t.sh r) := by
  cases hi : item.writesShadows with
  | false => exact .of_eq (State.startItem_sh h hi r)
  | true =>
    cases item with
    | shadow r' v =>
      cases h
      exact State.ShadowByte.setSh .kept (program_shadow hitem) r
    | zeroShadows => cases h; cases r <;> exact .zero _
    | _ => cases hi

/-- No byte that a shadow can take has an unmapped bit, where ALL_HIGH_BYTE has none. -/
theorem State.ShadowByte.mapped {s : State} {r : RegSet} {v : Byte} (h : s.ShadowByte r v) (hs : ShadowMaskInv s)
    (hhigh : s.allHigh r &&& ~~~(pinMask s.cfg.pinMap r) = 0) : v &&& ~~~(pinMask s.cfg.pinMap r) = 0 := by
  cases h with
  | kept => exact hs r hhigh
  | pin p b => exact withBit_subset (hs _ hhigh) (bitMask_subset_pinMask s.cfg.pinMap p) b
  | high => exact hhigh
  | zero => exact BitVec.zero_and

theorem ShadowMaskInv.of_shadowByte {s t : State} (hs : ShadowMaskInv s) (hcfg : t.cfg = s.cfg)
    (h : ∀ r, s.ShadowByte r (t.sh r)) : ShadowMaskInv t := by
  intro r hhigh
  have hallHigh : t.allHigh r = s.allHigh r := by cases r <;> simp only [State.allHigh, hcfg]
  rw [hallHigh, hcfg] at hhigh
  rw [hcfg]
  exact (h r).mapped hs hhigh

/-- Settles O53: a step leaves in a shadow a byte it can take, or resets both. -/
theorem shadowsKeepToMappedBits : Obligations.ShadowsKeepToMappedBits := by
  unfold Obligations.ShadowsKeepToMappedBits
  intro s t hs h
  have hcfg : t.cfg = s.cfg := (stepsKeepTheParameters s t h).1
  cases hrst : s.cycle.rst with
  | true =>
    rw [step_of_reset (step_clockStep h).1 hrst] at h
    cases h
    exact hs.of_shadowByte hcfg fun r => by cases r <;> exact .zero _
  | false =>
    have of_same : ∀ {u : State}, s.SameRegisters u → ShadowMaskInv u := fun hsame =>
      hs.of_shadowByte hsame.cfg fun r => .of_eq (hsame.sh r)
    rcases step_registers h hrst with hsame | ⟨i, item, -, hitem, hstart⟩ | ⟨i, u, -, hsame, hexec⟩
    · exact of_same hsame
    · exact (of_same s.clocked_sameRegisters).of_shadowByte (State.startItem_sameOutside hstart).cfg
        (startItem_shadowByte hstart hitem)
    · exact (of_same hsame).of_shadowByte (exec_sameOutside hexec).cfg (exec_shadowByte hexec)

end Sys2Proof.Machine
end

section
/-! PROOFS. The micro-program counter (O49) and the steps of a transaction (O7) of 10_state.md. Which item stands where
in a micro-program, and whether it is a transaction, does not depend on the state, so that UPC stays legal while the
state changes. -/

namespace Sys2Proof.Machine

/-- Settles O7: a busy block makes one small step, and each phase has one operation. -/
theorem stepRunsPortOperation : Obligations.StepRunsPortOperation := by
  unfold Obligations.StepRunsPortOperation
  rintro s t rfl hforeign hrst hen hbusy
  have hstep : step s = s.clocked.microStep s.cycle.tu :=
    step_of_busy hforeign hrst hen ((State.clocked_busy s).symm.trans hbusy)
  refine ⟨fun hp => ?_, fun hp hr => ?_, fun hp hr => ?_, fun hp => ?_, fun hp => ?_, fun hp => ?_, fun hp => ?_,
    fun i off val hp hd hitem => hstep.trans (State.microStep_of_item hp hd hitem _),
    fun i off hp hd hitem => hstep.trans (State.microStep_of_item hp hd hitem _)⟩
  all_goals rw [hstep, State.microStep, State.clocked, hp]
  · exact if_neg (by rw [hr]; decide)
  · exact if_pos hr

/-! ### Where a micro-program's items stand (R24, R123) -/

/-- An item that always ends its command. -/
def Item.ends : Item → Bool
  | .respond _ | .endTick => true
  | _ => false

/-- The same item stands in the same place of a command's micro-program in every state, but for the bytes in it. -/
theorem program_getElem?_of_state {s : State} {i : Instr} {k : Nat} {item : Item}
    (h : (program s i)[k]? = some item) (t : State) :
    ∃ item', (program t i)[k]? = some item' ∧ ∀ rd, item'.isTransaction rd = item.isTransaction rd := by
  have hshape : (program t i).map (fun a rd => a.isTransaction rd)
      = (program s i).map (fun a rd => a.isTransaction rd) := by cases i <;> rfl
  have hk := congrArg (·[k]?) hshape
  simp only [List.getElem?_map, h, Option.map_some, Option.map_eq_some_iff] at hk
  obtain ⟨item', hitem', hrd⟩ := hk
  exact ⟨item', hitem', congrFun hrd⟩

/-- The last item of a micro-program ends the command. -/
theorem program_getLast?_ends (s : State) (i : Instr) : ∀ item ∈ (program s i).getLast?, item.ends = true := by
  cases i <;> rintro _ ⟨⟩ <;> rfl

/-- No micro-program is longer than CS can count. -/
theorem program_length_le (s : State) (i : Instr) : (program s i).length ≤ 9 := by
  cases i <;> simp [program]

/-- After an item that does not end the command there is another, and CS reaches it. -/
theorem program_next {s : State} {i : Instr} {k : BitVec 4} {item : Item}
    (h : (program s i)[k.toNat]? = some item) (hends : item.ends = false) :
    ∃ item', (program s i)[(k + 1).toNat]? = some item' := by
  obtain ⟨hk, -⟩ := List.getElem?_eq_some_iff.mp h
  have hlen := program_length_le s i
  have hnotlast : k.toNat + 1 ≠ (program s i).length := fun hlast => by
    have hitem : (program s i).getLast? = some item := by
      rw [List.getLast?_eq_getElem?, ← hlast]; exact h
    have := program_getLast?_ends s i item hitem
    rw [hends] at this; cases this
  have hnext : (k + 1).toNat = k.toNat + 1 := by
    rw [BitVec.toNat_add]; exact Nat.mod_eq_of_lt (by change k.toNat + 1 < 16; omega)
  exact ⟨_, List.getElem?_eq_getElem (by omega)⟩

/-- A command has a first item (R101, R123). -/
theorem program_first {i : Instr} (h : i.hostIssuable = true) (s : State) : ∃ item, (program s i)[0]? = some item := by
  cases i with
  | stClr | setCmd | setSlvW | setSlvR | setData | go | getData => cases h
  | _ => exact ⟨_, rfl⟩

/-! ### UPC is legal (R35 (a)) -/

theorem UpcInv.of_idle {s : State} (hbusy : s.busy = false) (hcs : s.cs = 0) (hph : s.ph = .sClr) : UpcInv s :=
  ⟨fun _ => ⟨hcs, hph⟩, fun h => absurd (hbusy.symm.trans h) (by decide)⟩

/-- UPC is legal in a busy state that stands at the place of an item of the latched command. -/
theorem UpcInv.of_busy {s t : State} {i : Instr} {item : Item} (hbusy : t.busy = true)
    (hd : decodeCmd t.latched = .ok i) (hitem : (program s i)[t.cs.toNat]? = some item)
    (hph : t.ph ≠ .sClr → item.isTransaction t.tRd = true) : UpcInv t := by
  obtain ⟨item', hitem', hrd⟩ := program_getElem?_of_state hitem t
  exact ⟨fun h => absurd (hbusy.symm.trans h) (by decide),
    fun _ => ⟨i, item', hd, hitem', fun hp => (hrd t.tRd).trans (hph hp)⟩⟩

/-- A state whose UPC is legal stands where one of the same latch, UPC and direction does. -/
theorem UpcInv.congr {s t : State} (h : UpcInv s) (hbusy : t.busy = s.busy) (hcs : t.cs = s.cs) (hph : t.ph = s.ph)
    (hrd : t.tRd = s.tRd) (hlatched : t.latched = s.latched) : UpcInv t := by
  cases hb : s.busy with
  | false =>
    obtain ⟨hcs0, hph0⟩ := h.1 hb
    exact .of_idle (hbusy.trans hb) (hcs.trans hcs0) (hph.trans hph0)
  | true =>
    obtain ⟨i, item, hd, hitem, htx⟩ := h.2 hb
    exact .of_busy (hbusy.trans hb) (hlatched ▸ hd) (hcs ▸ hitem) (by rw [hph, hrd]; exact htx)

/-- A command just accepted stands at its first item. -/
theorem UpcInv.accept {w : CmdWord} {i : Instr} (hd : decodeCmd w = .ok i) (s : State) (src : Source) :
    UpcInv (s.accept src w) := by
  obtain ⟨item, hitem⟩ := program_first (hostIssuable_of_decodeCmd hd) s
  exact .of_busy rfl (by rw [State.latched_accept, hd]) hitem (fun h => absurd rfl h)

/-- A whole command leaves the block idle (R10). -/
theorem exec_idle {i : Instr} {s t : State} (hi : i.hostIssuable = true) (h : exec i s = .next t) :
    t.busy = false ∧ t.cs = 0 ∧ t.ph = .sClr := by
  cases i with
  | wrbit | allhi | alllo => cases h; split <;> exact ⟨rfl, rfl, rfl⟩
  | tick => cases h; split <;> simp [State.endTick_busy]
  | stClr | setCmd | setSlvW | setSlvR | setData | go | getData => cases hi
  | _ => cases h; exact ⟨rfl, rfl, rfl⟩

/-- The first step of an item ends the command, begins the item's transaction, or ends the item. -/
theorem State.startItem_upc {s t : State} {item : Item} (h : s.startItem item = .next t) (hbusy : s.busy = true) :
    (t.busy = false ∧ t.cs = 0 ∧ t.ph = .sClr)
      ∨ (t.busy = true ∧ t.cs = s.cs ∧ item.isTransaction t.tRd = true)
      ∨ (t.busy = true ∧ t.cs = s.cs + 1 ∧ t.ph = .sClr ∧ item.ends = false) := by
  cases item with
  | guard rejected =>
    cases h
    cases rejected
    · exact .inr (.inr ⟨hbusy, rfl, rfl, rfl⟩)
    · exact .inl ⟨rfl, rfl, rfl⟩
  | modeTest skip =>
    cases h
    cases skip
    · exact .inr (.inr ⟨hbusy, rfl, rfl, rfl⟩)
    · exact .inl ⟨s.endTick_busy, s.endTick_cs, s.endTick_ph⟩
  | respond d => cases h; exact .inl ⟨rfl, rfl, rfl⟩
  | endTick => cases h; exact .inl ⟨s.endTick_busy, s.endTick_cs, s.endTick_ph⟩
  | write off val => cases h; exact .inr (.inl ⟨hbusy, rfl, rfl⟩)
  | read off => cases h; exact .inr (.inl ⟨hbusy, rfl, rfl⟩)
  | shadow r v => cases h; cases r <;> exact .inr (.inr ⟨hbusy, rfl, rfl, rfl⟩)
  | keep r => cases h; cases r <;> exact .inr (.inr ⟨hbusy, rfl, rfl, rfl⟩)
  | _ => cases h; exact .inr (.inr ⟨hbusy, rfl, rfl, rfl⟩)

theorem State.startItem_answers (s : State) (item : Item) : ∃ t, s.startItem item = .next t := by
  cases item <;> exact ⟨_, rfl⟩

theorem exec_answers (i : Instr) (s : State) : ∃ t, exec i s = .next t := by
  cases i <;> exact ⟨_, rfl⟩

/-- A small step from a legal UPC does not fault (R24). -/
theorem State.microStep_answers {s : State} (h : UpcInv s) (hbusy : s.busy = true) (tu : Bool) :
    ∃ t, s.microStep tu = .next t := by
  obtain ⟨i, item, hd, hitem, -⟩ := h.2 hbusy
  cases hp : s.ph with
  | sClr =>
    rw [State.microStep_of_item hp hd hitem]
    exact s.startItem_answers item
  | sSlv => simp only [State.microStep, hp]; split <;> exact ⟨_, rfl⟩
  | _ => simp only [State.microStep, hp]; exact ⟨_, rfl⟩

theorem Item.ends_of_isTransaction {item : Item} {rd : Bool} (h : item.isTransaction rd = true) :
    item.ends = false := by
  cases item with
  | respond | endTick => cases h
  | _ => rfl

/-- A small step leads from a legal UPC to a legal one: it stays in the item's transaction or goes to the next item. -/
theorem State.microStep_upcInv {s t : State} {tu : Bool} (h : UpcInv s) (hbusy : s.busy = true)
    (hstep : s.microStep tu = .next t) : UpcInv t := by
  obtain ⟨i, item, hd, hitem, htx⟩ := h.2 hbusy
  have hlatched : decodeCmd t.latched = .ok i := (State.microStep_sameAround hstep).latched ▸ hd
  have sameItem : s.ph ≠ .sClr → t.busy = s.busy → t.cs = s.cs → t.tRd = s.tRd → UpcInv t := fun hp hb hcs hrd =>
    .of_busy (hb.trans hbusy) hlatched (hcs ▸ hitem) fun _ => hrd ▸ htx hp
  have nextItem : item.ends = false → t.busy = true → t.cs = s.cs + 1 → t.ph = .sClr → UpcInv t :=
      fun he hb hcs hp => by
    obtain ⟨item', hitem'⟩ := program_next hitem he
    exact .of_busy hb hlatched (hcs ▸ hitem') fun hp' => absurd hp hp'
  rcases State.microStep_cases hstep with ⟨-, -, -, rfl⟩ | ⟨hp, j, item', hd', hitem', hstart⟩ | ⟨hp, rfl⟩
    | ⟨hp, -, rfl⟩ | ⟨hp, -, rfl⟩ | ⟨hp, rfl⟩ | ⟨hp, rfl⟩ | ⟨hp, rfl⟩ | ⟨hp, rfl⟩
  case inl => exact .of_idle rfl rfl rfl
  case inr.inl =>
    obtain rfl : i = j := Except.ok.inj (hd.symm.trans hd')
    obtain rfl : item = item' := Option.some.inj (hitem.symm.trans hitem')
    rcases State.startItem_upc hstart hbusy with ⟨hb, hcs, hph⟩ | ⟨hb, hcs, hrd⟩ | ⟨hb, hcs, hph, he⟩
    · exact .of_idle hb hcs hph
    · exact .of_busy hb hlatched (hcs ▸ hitem) fun _ => hrd
    · exact nextItem he hb hcs hph
  all_goals
    have hp' : s.ph ≠ .sClr := by rw [hp]; decide
    have he := Item.ends_of_isTransaction (htx hp')
  case inr.inr.inr.inr.inr.inr.inr.inl =>
    rcases s.waitStep_cases tu with hw | hw | hw
    · rw [hw]; exact h
    · rw [hw] at sameItem ⊢; exact sameItem hp' rfl rfl rfl
    · rcases Bool.eq_false_or_eq_true s.tRd with hr | hr
      · rw [hw, State.endWait_of_read (by exact hr)] at sameItem ⊢; exact sameItem hp' rfl rfl rfl
      · rw [hw, State.endWait_of_write (by exact hr)] at nextItem ⊢; exact nextItem he hbusy rfl rfl
  case inr.inr.inr.inr.inr.inr.inr.inr => exact nextItem he hbusy rfl rfl
  all_goals exact sameItem hp' rfl rfl rfl

theorem State.clocked_upcInv {s : State} (h : UpcInv s) : UpcInv s.clocked :=
  h.congr s.clocked_busy (by rw [State.clocked_eq]) (by rw [State.clocked_eq]) (by rw [State.clocked_eq])
    s.clocked_latched

/-- A started command leaves a legal UPC in either grain: idle after all of it, or at its first item. -/
theorem UpcInv.of_started {w : CmdWord} {i : Instr} {s t : State} {src : Source} (hd : decodeCmd w = .ok i)
    (h : (s.grain = .big ∧ exec i (s.accept src w) = .next t) ∨ (s.grain = .small ∧ t = s.accept src w)) :
    UpcInv t := by
  rcases h with ⟨-, hexec⟩ | ⟨-, rfl⟩
  · obtain ⟨hb, hcs, hph⟩ := exec_idle (hostIssuable_of_decodeCmd hd) hexec
    exact .of_idle hb hcs hph
  · exact .accept hd s src

theorem State.start_answers (s : State) (i : Instr) : ∃ t, s.start i = .next t := by
  unfold State.start
  split
  · exact exec_answers i s
  · exact ⟨s, rfl⟩

theorem State.idleStep_answers (s : State) (tick tickFirst : Bool) : ∃ t, s.idleStep tick tickFirst = .next t := by
  have hword : ∀ w rest, ∃ t, s.takeCommand w rest = .next t := fun w rest => by
    unfold State.takeCommand
    split
    · exact ⟨_, rfl⟩
    · exact State.start_answers _ _
  unfold State.idleStep
  split <;> split
  · exact State.start_answers _ _
  · exact ⟨s, rfl⟩
  · exact State.start_answers _ _
  · exact hword _ _

/-- A step from a legal UPC answers, unless another agent touches the ports. -/
theorem step_answers {s : State} (h : UpcInv s) (hforeign : s.cycle.foreign = false) : ∃ t, step s = .next t := by
  cases hrst : s.cycle.rst with
  | true => exact ⟨_, step_of_reset hforeign hrst⟩
  | false =>
    rw [step_eq_work hforeign hrst, State.work]
    split
    · split
      next hbusy => exact State.microStep_answers (State.clocked_upcInv h) hbusy _
      next => exact State.idleStep_answers _ _ _
    · exact ⟨_, rfl⟩

/-- UPC stays legal in every step that answers. -/
theorem step_upcInv {s t : State} (h : UpcInv s) (hstep : step s = .next t) : UpcInv t := by
  obtain ⟨-, hclock⟩ := step_clockStep hstep
  cases hclock with
  | reset _ ht => rw [ht]; exact .of_idle rfl rfl rfl
  | inert _ _ ht => rw [ht]; exact State.clocked_upcInv h
  | busy _ _ hbusy hmicro =>
    exact State.microStep_upcInv (State.clocked_upcInv h) ((State.clocked_busy s).trans hbusy) hmicro
  | idle _ _ _ _ ht => rw [ht]; exact State.clocked_upcInv h
  | tick _ _ _ _ _ htick => exact .of_started (w := tickWord) rfl (State.takeTick_cases htick)
  | word w rest _ _ _ _ _ hword =>
    rcases State.takeCommand_started hword with ⟨-, -, rfl⟩ | ⟨i, hd, hstarted⟩
    · exact .of_idle rfl rfl rfl
    · exact .of_started (s := { s.clocked with cmds := rest }) hd hstarted

/-- Settles O49: a legal UPC is never past the end of its micro-program. -/
theorem legalUpcStepsToLegalUpc : Obligations.LegalUpcStepsToLegalUpc := by
  unfold Obligations.LegalUpcStepsToLegalUpc
  intro s h hforeign
  obtain ⟨t, hstep⟩ := step_answers h hforeign
  exact ⟨t, hstep, step_upcInv h hstep⟩

end Sys2Proof.Machine
end

section
/-! PROOFS. The form of the environment's memories (O55) of 10_state.md: every port operation keeps it, and so does
everything that is made of port operations. -/

namespace Sys2Proof.Machine

/-- The two memories of an environment have their canonical form (log entry 6). -/
structure Env.Canonical (e : Env) : Prop where
  io : Memory.wf (2 ^ 16) e.io = true
  chip : Memory.wf (2 ^ 8) e.chip = true

theorem memoryInv_iff (s : State) : MemoryInv s ↔ s.env.Canonical := ⟨fun h => ⟨h.1, h.2⟩, fun h => ⟨h.io, h.chip⟩⟩

section
variable {e : Env}

theorem Env.Canonical.latch (h : e.Canonical) (p : Port) (v : Byte) : (e.latch p v).Canonical :=
  ⟨Memory.wf_store _ _ _ _ p.isLt h.io, h.chip⟩

theorem Env.Canonical.setChip (h : e.Canonical) (off v : Byte) : (e.setChip off v).Canonical :=
  ⟨h.io, Memory.wf_store _ _ _ _ off.isLt h.chip⟩

theorem Env.Canonical.changeChip (h : e.Canonical) (cs : ChipEffect) : (e.changeChip cs).Canonical :=
  ⟨h.io, e.changeChip_wf cs h.chip⟩

theorem Env.Canonical.takeByte (h : e.Canonical) : e.takeByte.Canonical := ⟨h.io, h.chip⟩

theorem Env.Canonical.takeEffect (h : e.Canonical) : e.takeEffect.Canonical := ⟨h.io, h.chip⟩

theorem Env.Canonical.drift (h : e.Canonical) (cs : ChipEffect) : (e.drift cs).Canonical :=
  ⟨by rw [Env.drift_io]; exact h.io, e.drift_wf cs h.chip⟩

theorem Env.Canonical.forget (e : Env) : e.forget.Canonical := ⟨Memory.wf_nil _, Memory.wf_nil _⟩

theorem Env.Canonical.trigger (h : e.Canonical) : e.trigger.Canonical := by
  unfold Env.trigger
  split
  · exact (h.changeChip _).takeEffect
  · unfold Env.triggerReference
    dsimp only
    split_ifs
    · exact h.setChip _ _
    · exact h.takeByte.latch _ _
    · exact h.latch _ _
    · exact h

theorem Env.Canonical.acceptWrite (h : e.Canonical) (p : Port) (v : Byte) : (e.acceptWrite p v).Canonical := by
  unfold Env.acceptWrite
  split_ifs
  · exact h.latch p v
  · exact h.trigger
  · exact h

theorem Env.Canonical.afterRead (h : e.Canonical) (p : Port) : (e.afterRead p).Canonical := by
  unfold Env.afterRead
  split
  · split
    · exact h
    · exact h.takeByte.latch _ _
  · exact h.takeByte

theorem Env.Canonical.writeTransfer (h : e.Canonical) (off val : Byte) : (e.writeTransfer off val).Canonical :=
  ((((h.acceptWrite _ _).acceptWrite _ _).acceptWrite _ _).acceptWrite _ _).acceptWrite _ _

theorem Env.Canonical.readTransfer (h : e.Canonical) (off : Byte) :
    ((e.readRequest off).afterRead portData).Canonical :=
  ((((h.acceptWrite _ _).acceptWrite _ _).acceptWrite _ _).acceptWrite _ _).afterRead _

end

/-- Every instruction acts on the environment by port operations alone (R9, R38). -/
theorem exec_env_canonical {i : Instr} {s t : State} (h : exec i s = .next t) (hs : s.env.Canonical) :
    t.env.Canonical := by
  have hw := fun {e : Env} (he : e.Canonical) off val => he.writeTransfer off val
  have hr := fun {e : Env} (he : e.Canonical) off => he.readTransfer off
  cases i with
  | wrreg | setdir => cases h; simpa using hw hs _ _
  | rdreg | rdin => cases h; simpa using hr hs _
  | swout => cases h; simpa using hw (hw hs _ _) _ _
  | swin => cases h; simpa using hw (hw (hw (hw (hw (hw hs _ _) _ _) _ _) _ _) _ _) _ _
  | wrbit =>
    cases h
    split
    · exact hs
    · simpa using hw hs _ _
  | allhi | alllo =>
    cases h
    split
    · exact hs
    · simpa using hw (hw hs _ _) _ _
  | tick =>
    cases h
    split
    · simpa using hs
    · simpa using hr (hr hs _) _
  | stClr => cases h; exact hs.acceptWrite portStatus byteClr
  | setCmd off => cases h; exact hs.acceptWrite portCmd off
  | setSlvW => cases h; exact hs.acceptWrite portSlv slvWrite
  | setSlvR => cases h; exact hs.acceptWrite portSlv slvRead
  | setData val => cases h; exact hs.acceptWrite portData val
  | go => cases h; exact hs.acceptWrite portCtrl byteGo
  | getData => cases h; exact hs.afterRead portData

/-- A small step acts on the environment by a port operation or not at all (R123). -/
theorem State.startItem_env_canonical {s t : State} {item : Item} (h : s.startItem item = .next t)
    (hs : s.env.Canonical) : t.env.Canonical := by
  cases item with
  | write off val => exact exec_env_canonical (i := .stClr) (s := s.loadWrite off val) h hs
  | read off => exact exec_env_canonical (i := .stClr) (s := s.loadRead off) h hs
  | guard rejected => cases h; cases rejected <;> exact hs
  | modeTest skip => cases h; cases skip <;> simpa using hs
  | endTick => cases h; simpa using hs
  | shadow | keep => cases h; simpa using hs
  | _ => cases h; exact hs

theorem State.microStep_env_canonical {s t : State} {tu : Bool} (h : s.microStep tu = .next t)
    (hs : s.env.Canonical) : t.env.Canonical := by
  rcases State.microStep_cases h with ⟨-, -, -, rfl⟩ | ⟨-, _, _, -, -, hitem⟩ | ⟨-, rfl⟩ | ⟨-, -, rfl⟩ | ⟨-, -, rfl⟩
    | ⟨-, rfl⟩ | ⟨-, rfl⟩ | ⟨-, rfl⟩ | ⟨-, rfl⟩
  · exact hs
  · exact State.startItem_env_canonical hitem hs
  · exact exec_env_canonical (i := .setCmd s.tOff) rfl hs
  · exact exec_env_canonical (i := .setSlvR) rfl hs
  · exact exec_env_canonical (i := .setSlvW) rfl hs
  · exact exec_env_canonical (i := .setData s.tVal) rfl hs
  · exact exec_env_canonical (i := .go) rfl hs
  · rw [State.waitStep_eq]; exact hs
  · exact exec_env_canonical (i := .getData) rfl hs

theorem State.blockReset_env_canonical {s : State} (hs : s.env.Canonical) : s.blockReset.env.Canonical := by
  show (if s.busy then s.env.forget else s.env).Canonical
  split
  · exact .forget _
  · exact hs

/-- Settles O55: what ENV does of its own accord and every port operation keep the form. -/
theorem memoriesKeepTheirForm : Obligations.MemoriesKeepTheirForm := by
  unfold Obligations.MemoriesKeepTheirForm
  intro s t hs h
  rw [memoryInv_iff] at hs ⊢
  have hclocked : s.clocked.env.Canonical := by rw [State.clocked_env]; exact hs.drift _
  obtain ⟨-, hclock⟩ := step_clockStep h
  cases hclock with
  | reset _ ht =>
    rw [ht]
    exact State.blockReset_env_canonical (by rw [State.levels_env]; exact hs.drift _)
  | inert _ _ ht => rw [ht]; exact hclocked
  | busy _ _ _ hmicro => exact State.microStep_env_canonical hmicro hclocked
  | idle _ _ _ _ ht => rw [ht]; exact hclocked
  | tick _ _ _ _ _ htick =>
    rcases State.takeTick_cases htick with ⟨-, hexec⟩ | ⟨-, rfl⟩
    · exact exec_env_canonical hexec hclocked
    · exact hclocked
  | word _ _ _ _ _ _ _ hword =>
    rcases State.takeCommand_started hword with ⟨-, -, rfl⟩ | ⟨_, -, ⟨-, hexec⟩ | ⟨-, rfl⟩⟩
    · exact hclocked
    · exact exec_env_canonical hexec hclocked
    · exact hclocked

end Sys2Proof.Machine
end

section
/-! PROOFS. The shadows as the last bytes written (O54) of 10_state.md. -/

namespace Sys2Proof.Machine

/-! ### The last byte written to a register (R35 (b)) -/

/-- Whatever was latched before, the trigger at the end of a write transaction sends its byte to its register. -/
theorem foldl_writeEntries (o off val : Byte) (l : WriteLog) :
    (writeEntries off val).foldl (WriteLog.read o) l
      = ⟨off, 0x9C, val, if off = o then some val else l.last⟩ := by
  by_cases h : off = o <;> simp [writeEntries, WriteLog.read, h]

/-- The trigger of a read transaction sends no byte. -/
theorem foldl_readEntries_last (o off v : Byte) (l : WriteLog) :
    ((readEntries off v).foldl (WriteLog.read o) l).last = l.last := by
  simp [readEntries, WriteLog.read]

theorem lastWritten_write (o off val : Byte) (tr : List TraceEntry) :
    lastWritten o (tr ++ writeEntries off val) = if off = o then some val else lastWritten o tr := by
  rw [lastWritten, List.foldl_append, foldl_writeEntries]
  rfl

theorem lastWritten_read (o off v : Byte) (tr : List TraceEntry) :
    lastWritten o (tr ++ readEntries off v) = lastWritten o tr := by
  rw [lastWritten, List.foldl_append, foldl_readEntries_last]
  rfl

theorem offOut_injective {r r' : RegSet} (h : offOut r = offOut r') : r = r' := by
  revert h; cases r <;> cases r' <;> decide

theorem offDir_ne_offOut (r r' : RegSet) : offDir r ≠ offOut r' := by
  cases r <;> cases r' <;> decide

/-! ### The shadows mirror TRACE (R22, R158) -/

/-- The last byte the block has written to a set's output-data register, if there is one, is the set's shadow. -/
def State.Mirrors (s : State) : Prop :=
  ∀ (r : RegSet) (v : Byte), lastWritten (offOut r) s.trace = some v → s.sh r = v

theorem State.Mirrors.of_eq {s t : State} (h : s.Mirrors) (htrace : t.trace = s.trace) (hsh : ∀ r, t.sh r = s.sh r) :
    t.Mirrors := fun r v hv => (hsh r).trans (h r v (htrace ▸ hv))

theorem State.Mirrors.txw {s : State} (h : s.Mirrors) {off : Byte} (hoff : ∀ r, off ≠ offOut r) (val : Byte) :
    (s.txw off val).Mirrors := fun r v hv => by
  rw [State.txw_trace, lastWritten_write, if_neg (hoff r)] at hv
  rw [State.txw_sh]
  exact h r v hv

theorem State.Mirrors.txr {s : State} (h : s.Mirrors) (off : Byte) : (s.txr off).Mirrors :=
  fun r v hv => by
    rw [State.txr_trace, lastWritten_read] at hv
    have hsh : (s.txr off).sh r = s.sh r := by cases r <;> simp [State.sh]
    exact hsh.trans (h r v hv)

/-- A write to an output-data register after which the shadow takes the same byte (R158). -/
theorem State.Mirrors.write {s : State} (h : s.Mirrors) (r : RegSet) (val : Byte) :
    ((s.txw (offOut r) val).setSh r val).Mirrors := fun r' v hv => by
  rw [State.setSh_trace, State.txw_trace, lastWritten_write] at hv
  rw [State.setSh_sh, State.txw_sh]
  by_cases hr : r' = r
  · rw [if_pos (by rw [hr])] at hv
    rw [if_pos hr]
    exact Option.some.inj hv
  · rw [if_neg fun he => hr (offOut_injective he).symm] at hv
    rw [if_neg hr]
    exact h r' v hv

theorem State.Mirrors.respond {s : State} (h : s.Mirrors) (st : RspStatus) (d : Byte) : (s.respond st d).Mirrors :=
  h.of_eq rfl fun _ => rfl

theorem State.Mirrors.endTick {s : State} (h : s.Mirrors) : s.endTick.Mirrors :=
  h.of_eq s.endTick_trace ((State.sh_eq_iff _ _).mpr ⟨s.endTick_sh0, s.endTick_sh1⟩)

theorem State.Mirrors.keepSample {s : State} (h : s.Mirrors) (r : RegSet) : (s.keepSample r).Mirrors :=
  h.of_eq (s.keepSample_trace r) ((State.sh_eq_iff _ _).mpr ⟨s.keepSample_sh0 r, s.keepSample_sh1 r⟩)

theorem State.Mirrors.enterOutput {s : State} (h : s.Mirrors) : s.enterOutput.Mirrors := h.of_eq rfl fun _ => rfl

theorem State.Mirrors.showLevels {s : State} (h : s.Mirrors) : s.showLevels.Mirrors := h.of_eq rfl fun _ => rfl

/-- After SWIN both shadows are zero, and so are the last bytes written, whatever was before (R182, R183). -/
theorem State.Mirrors.of_swin {s t : State} (h : exec .swin s = .next t) : t.Mirrors := by
  cases h
  intro r v hv
  cases r with
  | set1 => simpa [-List.append_assoc, lastWritten_write, offOut, State.sh] using hv
  | set2 => simpa [-List.append_assoc, lastWritten_write, offOut, State.sh] using hv

/-- A command that is no raw write to an output-data register keeps the mirror. -/
theorem exec_mirrors {i : Instr} {s t : State} (h : exec i s = .next t) (hi : i.hostIssuable = true)
    (hraw : ∀ off v, i = .wrreg off v → ∀ r, off ≠ offOut r) (hs : s.Mirrors) : t.Mirrors := by
  cases i with
  | wrreg off val => cases h; exact (hs.txw (hraw off val rfl) val).respond _ _
  | rdreg off => cases h; exact (hs.txr off).respond _ _
  | setdir r ao => cases h; exact (hs.txw (offDir_ne_offOut r) _).respond _ _
  | rdin r => cases h; exact (hs.txr _).respond _ _
  | wrbit p b =>
    cases h
    split
    · exact hs.respond _ _
    · exact (hs.write _ _).respond _ _
  | allhi | alllo =>
    cases h
    split
    · exact hs.respond _ _
    · exact ((hs.write _ _).write _ _).respond _ _
  | swout =>
    cases h
    have hdirs := (hs.txw (offDir_ne_offOut .set1) 0xFF).txw (offDir_ne_offOut .set2) 0xFF
    exact hdirs.enterOutput.respond _ _
  | swin => exact .of_swin h
  | tick =>
    cases h
    split
    · exact hs.endTick
    · have hread := (((hs.txr (offIn .set1)).keepSample .set1).txr (offIn .set2)).keepSample .set2
      exact hread.showLevels.endTick
  | _ => cases hi

/-! ### What HOST presents -/

/-- The word of the coming clock step is listed in it, if it lists one. -/
theorem State.cycle_cmd_mem {s : State} {w : CmdWord} (h : s.cycle.cmd = some w) :
    ∃ c ∈ s.inputs, c.cmd = some w := by
  unfold State.cycle at h
  cases hi : s.inputs with
  | nil => rw [hi] at h; cases h
  | cons c cs => rw [hi] at h; exact ⟨c, List.mem_cons_self, h⟩

/-- Words that were at the port or listed are no raw writes in the next state. -/
theorem NoRawOutputWrite.mono {s t : State} (h : NoRawOutputWrite s)
    (hcmds : ∀ w ∈ t.cmds, w ∈ s.cmds ∨ s.cycle.cmd = some w) (hinputs : t.inputs = s.inputs.tail) :
    NoRawOutputWrite t := by
  rintro w (hw | ⟨c, hc, hcmd⟩)
  · exact h w ((hcmds w hw).imp_right State.cycle_cmd_mem)
  · exact h w (.inr ⟨c, List.mem_of_mem_tail (hinputs ▸ hc), hcmd⟩)

theorem State.mem_clocked_cmds {s : State} {w : CmdWord} (h : w ∈ s.clocked.cmds) :
    w ∈ s.cmds ∨ s.cycle.cmd = some w := by
  rw [State.clocked_cmds] at h
  simpa using h

theorem State.Mirrors.clocked {s : State} (h : s.Mirrors) : s.clocked.Mirrors := h.of_eq s.clocked_trace s.clocked_sh

/-- Settles O54: the big step is a reset, nothing, or a whole command, which keeps the mirror. -/
theorem shadowsMirrorTheLastBytesWritten : Obligations.ShadowsMirrorTheLastBytesWritten := by
  unfold Obligations.ShadowsMirrorTheLastBytesWritten
  rintro s t ⟨hgrain, hidle, hraw, hmirror⟩ h
  have hbig : t.grain = .big := (stepsKeepTheParameters s t h).2.trans hgrain
  have hnotsmall : s.clocked.grain ≠ .small := by rw [State.clocked_grain, hgrain]; decide
  have hclocked : s.clocked.Mirrors := State.Mirrors.clocked hmirror
  obtain ⟨-, hclock⟩ := step_clockStep h
  cases hclock with
  | reset _ ht =>
    rw [ht]
    refine ⟨by rw [← ht]; exact hbig, rfl, hraw.mono (fun w hw => ?_) (State.levels_inputs _ _), nofun⟩
    have hw : w ∈ (s.beginCycle.levels s.cycle).cmds := hw
    rw [State.levels_cmds] at hw
    simpa using hw
  | inert _ _ ht | idle _ _ _ _ ht =>
    rw [ht]
    exact ⟨by rw [← ht]; exact hbig, (State.clocked_busy s).trans hidle,
      hraw.mono (fun _ => State.mem_clocked_cmds) s.clocked_inputs, hclocked⟩
  | busy _ _ hbusy => rw [hidle] at hbusy; cases hbusy
  | tick _ _ _ _ _ htick =>
    rcases State.takeTick_cases htick with ⟨-, hexec⟩ | ⟨hsmall, -⟩
    · refine ⟨hbig, (exec_idle rfl hexec).1, hraw.mono (fun w hw => ?_) ?_, exec_mirrors hexec rfl nofun hclocked⟩
      · rw [(exec_sameAround hexec).cmds] at hw; exact State.mem_clocked_cmds hw
      · exact (exec_sameOutside hexec).inputs.trans s.clocked_inputs
    · exact absurd hsmall hnotsmall
  | word w rest _ _ _ hcmds _ hword =>
    have hmem : ∀ w' ∈ w :: rest, w' ∈ s.cmds ∨ s.cycle.cmd = some w' := fun w' hw' =>
      State.mem_clocked_cmds (hcmds ▸ hw')
    have hrest : ∀ w' ∈ rest, w' ∈ s.cmds ∨ s.cycle.cmd = some w' := fun w' hw' =>
      hmem w' (List.mem_cons_of_mem w hw')
    rcases State.takeCommand_started hword with ⟨-, -, rfl⟩ | ⟨i, hd, ⟨-, hexec⟩ | ⟨hsmall, -⟩⟩
    · exact ⟨hbig, rfl, hraw.mono hrest s.clocked_inputs, hclocked⟩
    · have hhost := hostIssuable_of_decodeCmd hd
      refine ⟨hbig, (exec_idle hhost hexec).1, hraw.mono (fun w' hw' => ?_) ?_,
        exec_mirrors hexec hhost (fun off v hi r => ?_) hclocked⟩
      · rw [(exec_sameAround hexec).cmds] at hw'; exact hrest w' hw'
      · exact (exec_sameOutside hexec).inputs.trans s.clocked_inputs
      · have hno := hraw w ((hmem w List.mem_cons_self).imp_right State.cycle_cmd_mem) v
        rintro rfl
        cases r
        exacts [hno.1 (hi ▸ hd), hno.2 (hi ▸ hd)]
    · exact absurd hsmall hnotsmall

end Sys2Proof.Machine
end

section
/-! PROOFS. Responses and the output channels (O38, O45) of 10_state.md. -/

namespace Sys2Proof.Machine

/-! ### Who is answered (R28, R100, R185) -/

/-- One response was given, and it stands at the response port (R28). -/
structure State.Answered (s t : State) : Prop where
  valid : t.rspValid = true
  appended : t.responses = s.responses ++ [t.response]

/-- No response was given. -/
structure State.Unanswered (s t : State) : Prop where
  valid : t.rspValid = s.rspValid
  same : t.responses = s.responses

theorem State.respond_answered {s t : State} (h : t.responses = s.responses) (st : RspStatus) (d : Byte) :
    s.Answered (t.respond st d) := ⟨rfl, by rw [State.respond_responses, h]; rfl⟩

theorem State.endTick_answered {s t : State} (h : t.responses = s.responses) (hsrc : t.cSrc = .host) :
    s.Answered t.endTick := by
  rw [State.endTick_of_host hsrc]; exact State.respond_answered h _ _

theorem State.endTick_unanswered {s t : State} (hv : t.rspValid = s.rspValid) (h : t.responses = s.responses)
    (hsrc : t.cSrc = .timer) : s.Unanswered t.endTick := by
  rw [State.endTick_of_timer hsrc]; exact ⟨hv, h⟩

/-- The end of TICK answers HOST and does not answer TIMER (R185). -/
theorem State.endTick_answered_or (s : State) : s.Answered s.endTick ∨ s.Unanswered s.endTick := by
  cases hsrc : s.cSrc with
  | host => exact .inl (State.endTick_answered rfl hsrc)
  | timer => exact .inr (State.endTick_unanswered rfl rfl hsrc)

/-- A command of HOST gives one response, whatever command it is and whether or not it is rejected (R100). -/
theorem exec_answered {i : Instr} {s t : State} (h : exec i s = .next t) (hi : i.hostIssuable = true)
    (hsrc : s.cSrc = .host) : s.Answered t := by
  cases i with
  | wrbit | allhi | alllo => cases h; split <;> exact State.respond_answered (by simp) _ _
  | tick => cases h; split <;> exact State.endTick_answered (by simp) (by simp [hsrc])
  | stClr | setCmd | setSlvW | setSlvR | setData | go | getData => cases hi
  | _ => cases h; exact State.respond_answered (by simp) _ _

/-- A TICK of TIMER gives none (R185). -/
theorem exec_tick_unanswered {s t : State} (h : exec .tick s = .next t) (hsrc : s.cSrc = .timer) :
    s.Unanswered t := by
  cases h
  split <;> exact State.endTick_unanswered (by simp) (by simp) (by simp [hsrc])

theorem State.startItem_answered_or {s t : State} {item : Item} (h : s.startItem item = .next t) :
    s.Answered t ∨ s.Unanswered t := by
  cases item with
  | guard rejected =>
    cases h
    cases rejected
    · exact .inr ⟨rfl, rfl⟩
    · exact .inl (State.respond_answered rfl _ _)
  | modeTest skip =>
    cases h
    cases skip
    · exact .inr ⟨rfl, rfl⟩
    · exact s.endTick_answered_or
  | respond d => cases h; exact .inl (State.respond_answered rfl _ _)
  | endTick => cases h; exact s.endTick_answered_or
  | shadow | keep => cases h; exact .inr ⟨by simp, by simp⟩
  | _ => cases h; exact .inr ⟨rfl, rfl⟩

theorem State.microStep_answered_or {s t : State} {tu : Bool} (h : s.microStep tu = .next t) :
    s.Answered t ∨ s.Unanswered t := by
  rcases State.microStep_cases h with ⟨-, -, -, rfl⟩ | ⟨-, _, _, -, -, hitem⟩ | ⟨-, rfl⟩ | ⟨-, -, rfl⟩ | ⟨-, -, rfl⟩
    | ⟨-, rfl⟩ | ⟨-, rfl⟩ | ⟨-, rfl⟩ | ⟨-, rfl⟩
  case inl => exact .inl (State.respond_answered rfl _ _)
  case inr.inl => exact State.startItem_answered_or hitem
  case inr.inr.inr.inr.inr.inr.inr.inl => rw [State.waitStep_eq]; exact .inr ⟨rfl, rfl⟩
  all_goals exact .inr ⟨rfl, rfl⟩

/-- A word taken is answered in the same step in the big-step grain, and at once in either if it is ill-formed (R100,
R214). -/
theorem State.takeCommand_answered_or {s t : State} {w : CmdWord} {rest : List CmdWord}
    (h : s.takeCommand w rest = .next t) :
    t.cmds = rest ∧ (s.Answered t ∨ s.grain = .small ∧ s.Unanswered t) := by
  rcases State.takeCommand_started h with ⟨-, -, rfl⟩ | ⟨i, hd, ⟨-, hexec⟩ | ⟨hsmall, rfl⟩⟩
  · exact ⟨rfl, .inl (State.respond_answered (s := s) (t := { s with cmds := rest }) rfl _ _)⟩
  · obtain ⟨hvalid, happended⟩ := exec_answered hexec (hostIssuable_of_decodeCmd hd) rfl
    exact ⟨(exec_sameAround hexec).cmds, .inl ⟨hvalid, happended⟩⟩
  · exact ⟨rfl, .inr ⟨hsmall, rfl, rfl⟩⟩

/-- A tick taken is not answered in that step (R185). -/
theorem State.takeTick_unanswered {s t : State} (h : s.takeTick = .next t) : t.cmds = s.cmds ∧ s.Unanswered t := by
  rcases State.takeTick_cases h with ⟨-, hexec⟩ | ⟨-, rfl⟩
  · obtain ⟨hvalid, hsame⟩ := exec_tick_unanswered hexec rfl
    exact ⟨(exec_sameAround hexec).cmds, hvalid, hsame⟩
  · exact ⟨rfl, rfl, rfl⟩

/-- Settles O38: the word taken is answered, the tick taken is not. -/
theorem everyAcceptedWordIsAnsweredOnce : Obligations.EveryAcceptedWordIsAnsweredOnce := by
  unfold Obligations.EveryAcceptedWordIsAnsweredOnce
  rintro s t u rfl hforeign hrst hen hbusy hgrain h
  have hen' : s.clocked.en = true := (State.countPoll_en _ _).trans hen
  have hbusy' : s.clocked.busy = false := (State.countPoll_busy _ _).trans hbusy
  have hgrain' : s.clocked.grain = .big := (State.countPoll_grain _ _).trans hgrain
  have hcmds : s.clocked.cmds = (s.beginCycle.levels s.cycle).cmds := State.countPoll_cmds _ _
  rw [step_of_idle hforeign hrst hen' hbusy'] at h
  refine ⟨fun w rest hc hfirst => ?_, fun hraised hfirst => ?_⟩
  · rw [State.idleStep_of_word (hcmds.trans hc) hfirst] at h
    obtain ⟨hrest, ⟨hvalid, happended⟩ | ⟨hsmall, -⟩⟩ := State.takeCommand_answered_or h
    case inr => rw [hgrain'] at hsmall; cases hsmall
    exact ⟨hrest, hvalid, _, happended.trans (by rw [State.clocked_responses]), rfl⟩
  · rw [hraised, State.idleStep_of_tick (hcmds ▸ hfirst)] at h
    obtain ⟨hwords, hvalid, hsame⟩ := State.takeTick_unanswered h
    exact ⟨hwords.trans hcmds, hvalid.trans s.clocked_rspValid, hsame.trans s.clocked_responses⟩

/-! ### The response port says so (R36) -/

/-- A step without reset gives one response or none, and `rsp_valid` tells which. -/
theorem step_answered_or {s t : State} (h : step s = .next t) (hrst : s.cycle.rst = false) :
    s.clocked.Answered t ∨ s.clocked.Unanswered t := by
  obtain ⟨-, hclock⟩ := step_clockStep h
  cases hclock with
  | reset hr => rw [hrst] at hr; cases hr
  | inert _ _ ht | idle _ _ _ _ ht => rw [ht]; exact .inr ⟨rfl, rfl⟩
  | busy _ _ _ hmicro => exact State.microStep_answered_or hmicro
  | tick _ _ _ _ _ htick => exact .inr (State.takeTick_unanswered htick).2
  | word _ _ _ _ _ _ _ hword => exact (State.takeCommand_answered_or hword).2.imp_right (·.2)

/-- `rsp_valid` is high in the state after the step that responds and in no other (log entry 11). -/
theorem step_rspValid {s t : State} (h : step s = .next t) (hrst : s.cycle.rst = false) :
    (t.rspValid = true ↔ t.responses = s.responses ++ [t.response])
      ∧ (t.rspValid = false ↔ t.responses = s.responses) := by
  rcases step_answered_or h hrst with ⟨hvalid, happended⟩ | ⟨hvalid, hsame⟩
  · rw [State.clocked_responses] at happended
    simp [hvalid, happended]
  · rw [State.clocked_rspValid] at hvalid
    rw [State.clocked_responses] at hsame
    simp [hvalid, hsame]

/-! ### `cmd_ready` (R36) -/

/-- `cmd_ready`, where a word is at the port (R36). -/
theorem State.cmdReady_iff {s : State} {c : Cycle} (hcmds : (s.levels c).cmds ≠ []) :
    s.cmdReady c = true ↔ (s.levels c).en = true ∧ (s.levels c).busy = false
      ∧ ¬ ((s.levels c).tickRaised c = true ∧ c.tickFirst = true) := by
  have hempty : (s.levels c).cmds.isEmpty = false := by simpa using hcmds
  simp only [State.cmdReady, hempty, Bool.or_false, Bool.and_eq_true, Bool.not_eq_true', Bool.and_eq_false_iff,
    and_assoc, not_and_or, Bool.not_eq_true]

/-- What is left at the port after a step without reset: the first word goes if it was accepted (R36). -/
theorem step_cmds {s u : State} {w : CmdWord} {rest : List CmdWord} (h : step s = .next u)
    (hrst : s.cycle.rst = false) (hc : (s.beginCycle.levels s.cycle).cmds = w :: rest) :
    u.cmds = if s.beginCycle.cmdReady s.cycle then rest else w :: rest := by
  have hready := State.cmdReady_iff (s := s.beginCycle) (c := s.cycle) (by rw [hc]; exact List.cons_ne_nil w rest)
  have hcmds : s.clocked.cmds = w :: rest := (State.countPoll_cmds _ _).trans hc
  have hen : (s.beginCycle.levels s.cycle).en = s.clocked.en := (State.countPoll_en _ _).symm
  rw [hen, State.levels_busy, State.beginCycle_busy] at hready
  have notReady : ¬ (s.clocked.en = true ∧ s.busy = false ∧
      ¬ ((s.beginCycle.levels s.cycle).tickRaised s.cycle = true ∧ s.cycle.tickFirst = true)) →
      u.cmds = s.clocked.cmds → u.cmds = if s.beginCycle.cmdReady s.cycle then rest else w :: rest :=
    fun hn hu => by rw [if_neg (mt hready.mp hn), hu, hcmds]
  obtain ⟨-, hclock⟩ := step_clockStep h
  cases hclock with
  | reset hr => rw [hrst] at hr; cases hr
  | inert _ hen' ht => exact notReady (fun hn => by rw [hen'] at hn; cases hn.1) (by rw [ht])
  | busy _ _ hbusy hmicro =>
    exact notReady (fun hn => by rw [hbusy] at hn; cases hn.2.1) (State.microStep_sameAround hmicro).cmds
  | idle _ _ _ hnone => rw [hcmds] at hnone; cases hnone
  | tick _ _ _ hraised hfirst htick =>
    have hfirst : s.cycle.tickFirst = true := hfirst.resolve_left (by rw [hcmds]; exact List.cons_ne_nil w rest)
    exact notReady (fun hn => hn.2.2 ⟨hraised, hfirst⟩) (State.takeTick_unanswered htick).1
  | word w' rest' _ hen' hbusy hc' hfirst hword =>
    rw [if_pos (hready.mpr ⟨hen', hbusy, fun hn => by rw [hfirst hn.1] at hn; cases hn.2⟩)]
    obtain ⟨-, rfl⟩ := List.cons.inj (hcmds.symm.trans hc')
    exact (State.takeCommand_answered_or hword).1

/-! ### The packing of the outputs (R36, R91, R100) -/

theorem Response.word_fields (r : Response) :
    r.word.extractLsb' 8 2 = r.status.toBits ∧ r.word.extractLsb' 0 8 = r.data := by
  constructor <;> (simp only [Response.word]; ext i hi; simp; grind)

/-- Pin p stands at bits 2p+1..2p of the display output. -/
theorem State.dispOut_pin (s : State) (p : LogicalPin) :
    s.dispOut.extractLsb' (2 * p.val) 2 = (s.disp.get p).toBits := by
  unfold State.dispOut
  match p with
  | 0 | 1 | 2 | 3 | 4 | 5 | 6 | 7 => simp only [PerPin.get]; ext i hi; simp; grind

/-- Settles O45: the encodings are tables, and the channels follow from what a step does. -/
theorem outputEncodings : Obligations.OutputEncodings := by
  unfold Obligations.OutputEncodings
  refine ⟨rfl, rfl, rfl, rfl, rfl, rfl, rfl, rfl, Response.word_fields, State.dispOut_pin,
    fun s => ⟨?_, rfl, rfl, rfl⟩, fun p v => ⟨rfl, rfl⟩, fun s t => step_rspValid, ?_⟩
  · rw [State.modeOut]; cases s.mode <;> rfl
  · rintro s t u w rest rfl hc h hrst
    exact ⟨State.cmdReady_iff (by rw [hc]; exact List.cons_ne_nil w rest), step_cmds h hrst hc⟩

end Sys2Proof.Machine
end

section
/-! PROOFS. The input levels and the poll timer (O39, O41, O42, O43, O56), and reset (O46, O47, O48), of 10_state.md. -/

namespace Sys2Proof.Machine

/-! ### The poll timer (R26, D29) -/

section
variable {s : State} {c : Cycle}

/-- A pulse counts one modulo 200 while both enables are high. -/
theorem State.countPoll_pulse (hen : s.en = true) (hpoll : s.pollEn = true) (htu : c.tu = true)
    (hlt : s.pollCnt.toNat < 200) : (s.countPoll c).pollCnt.toNat = (s.pollCnt.toNat + 1) % 200 := by
  simp only [State.countPoll, hen, hpoll, htu, Bool.and_self, if_true]
  split
  next h =>
    obtain h199 : s.pollCnt.toNat = 199 := by omega
    rw [h199]; rfl
  next h =>
    rw [BitVec.toNat_add]
    show (s.pollCnt.toNat + 1) % 256 = (s.pollCnt.toNat + 1) % 200
    omega

/-- Without a pulse the count stands. -/
theorem State.countPoll_no_pulse (hen : s.en = true) (hpoll : s.pollEn = true) (htu : c.tu = false) :
    s.countPoll c = s := by
  simp [State.countPoll, hen, hpoll, htu]

/-- With an enable low the count is 0. -/
theorem State.countPoll_low (h : s.en = false ∨ s.pollEn = false) : (s.countPoll c).pollCnt = 0 := by
  have hlow : (s.en && s.pollEn) = false := by rcases h with h | h <;> simp [h]
  simp [State.countPoll, hlow]

/-- In the timed grain a tick is raised by the pulse at the last count (R26). -/
theorem State.tickRaised_small (hg : s.grain = .small) (hen : s.en = true) (hpoll : s.pollEn = true) :
    s.tickRaised c = true ↔ c.tu = true ∧ 199 ≤ s.pollCnt.toNat := by
  simp [State.tickRaised, hg, hen, hpoll]

/-- With an enable low no tick is raised. -/
theorem State.tickRaised_low (h : s.en = false ∨ s.pollEn = false) : s.tickRaised c = false := by
  rcases h with h | h <;> simp [State.tickRaised, h]

/-- The count of `n` pulses. -/
theorem State.countPoll_iterate (htu : c.tu = true) (n : Nat) : ∀ {s : State}, s.en = true → s.pollEn = true →
    s.pollCnt.toNat < 200 →
    ((fun u : State => u.countPoll c)^[n] s).pollCnt.toNat = (s.pollCnt.toNat + n) % 200 := by
  induction n with
  | zero => intro s _ _ hlt; exact (Nat.mod_eq_of_lt hlt).symm
  | succ n ih =>
    intro s hen hpoll hlt
    have hpulse := State.countPoll_pulse hen hpoll htu hlt
    rw [Function.iterate_succ_apply, ih ((State.countPoll_en s c).trans hen) ((State.countPoll_pollEn s c).trans hpoll)
      (by rw [hpulse]; omega), hpulse]
    omega

/-- The timer keeps its invariant, and an enable that is low clears the count. -/
theorem State.countPoll_pollInv (hlt : s.pollCnt.toNat < 200) : PollInv (s.countPoll c) := by
  by_cases hboth : s.en = true ∧ s.pollEn = true
  · obtain ⟨hen, hpoll⟩ := hboth
    refine ⟨?_, fun h => by simp [hen, hpoll] at h⟩
    cases htu : c.tu with
    | true => rw [State.countPoll_pulse hen hpoll htu hlt]; omega
    | false => rw [State.countPoll_no_pulse hen hpoll htu]; exact hlt
  · have hlow : s.en = false ∨ s.pollEn = false := by
      simpa only [not_and_or, Bool.not_eq_true] using hboth
    have hzero := State.countPoll_low (c := c) hlow
    exact ⟨by rw [hzero]; decide, fun _ => hzero⟩

end

/-- Settles O43: the timer pulse by pulse, and its last count. -/
theorem pollCounterCountsModuloThePeriod : Obligations.PollCounterCountsModuloThePeriod := by
  unfold Obligations.PollCounterCountsModuloThePeriod
  refine fun s c n hlt => ⟨fun hen hpoll htu => ⟨State.countPoll_iterate htu n hen hpoll hlt, fun hg => ?_⟩,
    fun hen hpoll htu => ⟨State.countPoll_no_pulse hen hpoll htu, fun hg => ?_⟩,
    fun hlow => ⟨State.countPoll_low hlow, State.tickRaised_low hlow⟩⟩
  · have hpulse := State.countPoll_pulse hen hpoll htu hlt
    have hzero : (s.countPoll c).pollCnt = 0 ↔ (s.countPoll c).pollCnt.toNat = 0 := by
      rw [BitVec.toNat_eq]; rfl
    rw [State.tickRaised_small hg hen hpoll, hzero, hpulse]
    simp only [htu, true_and]
    omega
  · rw [Bool.eq_false_iff, Ne, State.tickRaised_small hg hen hpoll, htu]
    rintro ⟨h, -⟩
    cases h

/-- Settles O56: what the block works on has the timer's invariant, and the block's work leaves the timer. -/
theorem pollCounterStaysInItsPeriod : Obligations.PollCounterStaysInItsPeriod := by
  unfold Obligations.PollCounterStaysInItsPeriod
  rintro s t ⟨hlt, -⟩ h
  cases hrst : s.cycle.rst with
  | true =>
    rw [step_of_reset (step_clockStep h).1 hrst] at h
    cases h
    exact ⟨Nat.zero_lt_succ 199, fun _ => rfl⟩
  | false =>
    have hsame := step_sameLevels h hrst
    have hinv : PollInv s.clocked := State.countPoll_pollInv (by rw [State.levels_pollCnt]; exact hlt)
    rw [PollInv, hsame.pollCnt, hsame.en, hsame.pollEn]
    exact hinv

/-! ### The input levels (R26, R36, R253, R254) -/

/-- Settles O39: without EN a step settles the levels and clears the count. -/
theorem blockIsInertWithoutEnable : Obligations.BlockIsInertWithoutEnable := by
  unfold Obligations.BlockIsInertWithoutEnable
  rintro s t rfl hforeign hrst hen
  have hstep := step_of_disabled hforeign hrst ((State.countPoll_en _ _).trans hen)
  have hclocked : s.clocked = { s.beginCycle.levels s.cycle with pollCnt := 0 } := by
    rw [State.clocked, State.countPoll_eq, State.countPoll_low (.inl hen)]
  rw [hclocked] at hstep
  exact ⟨hstep, by simp, by simp, by simp, by simp, by simp, by simp, by simp, State.levels_cmds _ _⟩

@[simp] theorem State.levels_pollEn (s : State) (c : Cycle) : (s.levels c).pollEn = c.pollEn.getD s.pollEn := by
  unfold State.levels State.releaseBus State.loaderReports; split <;> split <;> rfl

/-- The first report Ok raises EN, unless the bus was released (R253). -/
theorem State.levels_of_ok {s : State} {c : Cycle} (hload : s.load = none) (hreport : c.load = some .ok)
    (hreleased : s.released = false) (hrelease : c.release = false) :
    (s.levels c).en = true ∧ (s.levels c).load = some .ok := by
  simp [State.levels, State.loaderReports, State.releaseBus, hload, hreport, hreleased, hrelease]

/-- A release lowers EN, whatever LOADER reports (R254). -/
theorem State.levels_of_release {s : State} {c : Cycle} (hrelease : c.release = true) :
    (s.levels c).en = false ∧ (s.levels c).released = true := by
  simp [State.levels, State.releaseBus, hrelease]

/-- After a release no report raises EN (log entry 20). -/
theorem State.levels_of_released {s : State} {c : Cycle} (hreleased : s.released = true) (hen : s.en = false) :
    (s.levels c).en = false ∧ (s.levels c).released = true := by
  unfold State.levels State.releaseBus State.loaderReports
  split <;> split <;> simp [hreleased, hen]

/-- Without a first report and without a release the levels of LOADER stand. -/
theorem State.levels_of_no_report {s : State} {c : Cycle} (hreport : s.load ≠ none ∨ c.load = none)
    (hrelease : c.release = false) :
    (s.levels c).en = s.en ∧ (s.levels c).load = s.load ∧ (s.levels c).released = s.released := by
  have hsame : s.loaderReports c.load = s := by
    unfold State.loaderReports
    split
    next st hload hst => simp [hload, hst] at hreport
    next => rfl
  simp [State.levels, State.releaseBus, hsame, hrelease]

/-- Settles O41: EN, POLL_EN and LOADER's records are those of the input levels. -/
theorem enableFollowsLoaderAndRelease : Obligations.EnableFollowsLoaderAndRelease := by
  unfold Obligations.EnableFollowsLoaderAndRelease
  intro s t h
  obtain ⟨hen, hpollEn, hload, hreleased⟩ := step_levels h
  rw [hen, hpollEn, hload, hreleased]
  exact ⟨State.levels_of_ok (s := s.beginCycle), State.levels_of_release, State.levels_of_released (s := s.beginCycle),
    State.levels_of_no_report (s := s.beginCycle), State.levels_pollEn _ _⟩

/-! ### A tick while the block is busy (R187, D9) -/

/-- The state at another count of the poll timer. -/
def State.withPoll (s : State) (n : BitVec 8) : State := { s with pollCnt := n }

theorem program_withPoll (s : State) (n : BitVec 8) (i : Instr) : program (s.withPoll n) i = program s i := by
  cases i <;> rfl

theorem State.endTick_withPoll (s : State) (n : BitVec 8) : (s.withPoll n).endTick = s.endTick.withPoll n := by
  cases h : s.cSrc with
  | host => rw [State.endTick_of_host h, State.endTick_of_host (s := s.withPoll n) h]; rfl
  | timer => rw [State.endTick_of_timer h, State.endTick_of_timer (s := s.withPoll n) h]; rfl

theorem State.endWait_withPoll (s : State) (n : BitVec 8) : (s.withPoll n).endWait = s.endWait.withPoll n := by
  cases h : s.tRd with
  | false => rw [State.endWait_of_write h, State.endWait_of_write (s := s.withPoll n) h]; rfl
  | true => rw [State.endWait_of_read h, State.endWait_of_read (s := s.withPoll n) h]; rfl

theorem State.waitStep_withPoll (s : State) (n : BitVec 8) (tu : Bool) :
    (s.withPoll n).waitStep tu = (s.waitStep tu).withPoll n := by
  cases tu with
  | false => rfl
  | true =>
    unfold State.waitStep
    simp only [if_true]
    rw [apply_ite (State.withPoll · n), ← State.endWait_withPoll]
    rfl

theorem State.startItem_withPoll {s t : State} {item : Item} (h : s.startItem item = .next t) (n : BitVec 8) :
    (s.withPoll n).startItem item = .next (t.withPoll n) := by
  cases item with
  | guard rejected => cases h; cases rejected <;> rfl
  | modeTest skip =>
    cases h
    cases skip
    · rfl
    · exact congrArg Host.Outcome.next (s.endTick_withPoll n)
  | endTick => cases h; exact congrArg Host.Outcome.next (s.endTick_withPoll n)
  | shadow r v => cases h; cases r <;> rfl
  | keep r => cases h; cases r <;> rfl
  | _ => cases h; rfl

/-- A small step neither reads nor writes POLL_CNT. -/
theorem State.microStep_withPoll {s t : State} {tu : Bool} (h : s.microStep tu = .next t) (n : BitVec 8) :
    (s.withPoll n).microStep tu = .next (t.withPoll n) := by
  have hph : (s.withPoll n).ph = s.ph := rfl
  have hrd : (s.withPoll n).tRd = s.tRd := rfl
  rcases State.microStep_cases h with ⟨hp, e, hd, rfl⟩ | ⟨hp, i, item, hd, hitem, hstart⟩ | ⟨hp, rfl⟩ | ⟨hp, hr, rfl⟩
    | ⟨hp, hr, rfl⟩ | ⟨hp, rfl⟩ | ⟨hp, rfl⟩ | ⟨hp, rfl⟩ | ⟨hp, rfl⟩
  case inl =>
    have hd' : decodeCmd (s.withPoll n).latched = .error e := hd
    rw [State.microStep, hph, hp]
    simp only [hd']
    rfl
  case inr.inl =>
    rw [State.microStep_of_item (s := s.withPoll n) hp hd (by rw [program_withPoll]; exact hitem)]
    exact State.startItem_withPoll hstart n
  case inr.inr.inr.inl | inr.inr.inr.inr.inl => rw [State.microStep, hph, hp]; simp only [hrd, hr]; rfl
  case inr.inr.inr.inr.inr.inr.inr.inl =>
    rw [State.microStep_sWait (s := s.withPoll n) hp, State.waitStep_withPoll]
  all_goals rw [State.microStep, hph, hp]; rfl

/-- The same coming clock step at another count of the timer, and with another tick of TIMER. -/
def State.withTick (s : State) (n : BitVec 8) (tick first : Bool) : State :=
  { s with pollCnt := n, inputs := { s.cycle with tick := tick, tickFirst := first } :: s.inputs.tail }

/-- The input levels look at neither the tick nor the timer. -/
theorem State.levels_withTick (s : State) (n : BitVec 8) (tick first : Bool) :
    (s.withTick n tick first).beginCycle.levels (s.withTick n tick first).cycle
      = (s.beginCycle.levels s.cycle).withPoll n := by
  show (s.beginCycle.withPoll n).levels s.cycle = _
  unfold State.levels State.releaseBus State.loaderReports
  dsimp only [State.withPoll]
  split <;> split <;> rfl

theorem State.countPoll_withPoll (s : State) (n : BitVec 8) (c : Cycle) :
    (s.withPoll n).countPoll c = (s.countPoll c).withPoll ((s.withPoll n).countPoll c).pollCnt := by
  rw [State.countPoll_eq (s.withPoll n), State.countPoll_eq s]
  rfl

theorem State.clocked_withTick (s : State) (n : BitVec 8) (tick first : Bool) :
    (s.withTick n tick first).clocked = s.clocked.withPoll (s.withTick n tick first).clocked.pollCnt := by
  rw [State.clocked, State.levels_withTick]
  exact State.countPoll_withPoll _ n _

/-- Settles O42: a busy block's small step looks at neither the tick nor the timer. -/
theorem tickWhileBusyIsLost : Obligations.TickWhileBusyIsLost := by
  unfold Obligations.TickWhileBusyIsLost
  intro s t n tick first hbusy h
  obtain ⟨hforeign, hclock⟩ := step_clockStep h
  cases hclock with
  | reset hrst ht =>
    refine ⟨⟨t.pollCnt, ?_⟩, fun hr => by rw [hrst] at hr; cases hr⟩
    subst ht
    have hstep := step_of_reset (s := s.withTick n tick first) hforeign hrst
    rw [State.levels_withTick] at hstep
    exact hstep
  | inert hrst hen ht =>
    refine ⟨⟨(s.withTick n tick first).clocked.pollCnt, ?_⟩, fun _ => ht ▸ ⟨s.clocked_latched, s.clocked_cSrc⟩⟩
    subst ht
    have hstep := step_of_disabled (s := s.withTick n tick first) hforeign hrst
      (by rw [State.clocked_withTick]; exact hen)
    exact hstep.trans (congrArg Host.Outcome.next (State.clocked_withTick s n tick first))
  | busy hrst hen _ hmicro =>
    have hsame := State.microStep_sameAround hmicro
    refine ⟨⟨(s.withTick n tick first).clocked.pollCnt, ?_⟩,
      fun _ => ⟨hsame.latched.trans s.clocked_latched, hsame.cSrc.trans s.clocked_cSrc⟩⟩
    have hstep := step_of_busy (s := s.withTick n tick first) hforeign hrst
      (by rw [State.clocked_withTick]; exact hen) hbusy
    rw [State.clocked_withTick] at hstep
    exact hstep.trans (State.microStep_withPoll hmicro _)
  | idle _ _ hidle | tick _ _ hidle | word _ _ _ _ hidle => rw [hbusy] at hidle; cases hidle

/-! ### Reset (R37, R250) -/

/-- Settles O46: the fields of the reset state are those of the table. -/
theorem resetStateIsTheTableOfR37 : Obligations.ResetStateIsTheTableOfR37 := by
  unfold Obligations.ResetStateIsTheTableOfR37
  exact ⟨rfl, rfl, rfl, rfl, rfl, rfl, rfl, rfl, rfl, rfl, rfl, rfl, rfl, rfl, rfl, rfl, rfl, rfl, rfl, rfl, rfl, rfl,
    rfl, rfl⟩

/-- Settles O47: the step is the reset, and ENV is forgotten in mid-command alone. -/
theorem resetInputResetsTheBlockAlone : Obligations.ResetInputResetsTheBlockAlone := by
  unfold Obligations.ResetInputResetsTheBlockAlone
  rintro s t rfl hforeign hrst
  refine ⟨(s.beginCycle.levels s.cycle).blockReset.env, fun hbusy => ?_, fun hbusy => ?_, ?_⟩
  · exact if_neg (by rw [State.levels_busy, State.beginCycle_busy, hbusy]; decide)
  · have henv : (s.beginCycle.levels s.cycle).blockReset.env = (s.env.drift s.cycle.chip).forget := by
      refine (if_pos (by rw [State.levels_busy]; exact hbusy)).trans ?_
      rw [State.levels_env]; rfl
    rw [henv]
    exact ⟨rfl, rfl, congrArg (· + 1) (Env.drift_epoch _ _), Env.drift_answers _ _⟩
  · rw [step_of_reset hforeign hrst, State.blockReset, State.levels_cfg, State.levels_grain]
    rfl

/-- Settles O48: the reset state is idle, its TRACE and memories are empty and its shadows zero. -/
theorem resetMeetsTheInvariants : Obligations.ResetMeetsTheInvariants := by
  unfold Obligations.ResetMeetsTheInvariants
  refine ⟨.of_idle rfl rfl rfl, ⟨fun _ => rfl, nofun, nofun, [], rfl⟩, ⟨nofun, nofun⟩, fun r _ => ?_,
    ⟨Memory.wf_nil _, Memory.wf_nil _⟩, ⟨Nat.zero_lt_succ 199, fun _ => rfl⟩, rfl, rfl, ?_, nofun⟩
  · cases r <;> exact BitVec.zero_and
  · rintro w (hw | ⟨c, hc, -⟩)
    · cases hw
    · cases hc

end Sys2Proof.Machine
end

section
/-! PROOFS. The environment after the four commands of one transaction (O11) of 20_memory.md. -/

namespace Sys2Proof.Machine

/-- The direction register of a set, as R150 states it. -/
theorem offDir_eq (r : RegSet) : offDir r = if r = .set1 then 0x10 else 0x20 := by cases r <;> rfl

/-- The input-data register of a set, as R152 states it. -/
theorem offIn_eq (r : RegSet) : offIn r = if r = .set1 then 0x12 else 0x22 := by cases r <;> rfl

/-- TXW is one write transfer of its byte to its register. -/
theorem State.txw_writeEffect (s : State) (off val : Byte) : WriteEffect off val s.env (s.txw off val).env := by
  rw [State.txw_env]
  exact s.env.writeTransfer_effect off val

/-- TXR is one read transfer from its register, and T_RES takes the byte it returned. -/
theorem State.txr_readEffect (s : State) (off : Byte) :
    ReadEffect off (s.txr off).tRes s.env (s.txr off).env := by
  rw [State.txr_env, State.txr_tRes]
  exact s.env.read_effect off

/-- Settles O11: each of the four commands is one transaction and a response, which touches no environment. -/
theorem transactionsActOnTheEnvironment : Obligations.TransactionsActOnTheEnvironment := by
  unfold Obligations.TransactionsActOnTheEnvironment
  intro s
  refine ⟨fun off val => ?_, fun off => ?_, fun r ao => ?_, fun r => ?_⟩
  · refine ⟨(s.txw off val).respond .ok 0x00, rfl, ?_⟩
    rw [State.respond_env, State.respond_wCnt]
    exact ⟨s.txw_writeEffect off val, s.txw_wCnt off val⟩
  · refine ⟨(s.txr off).respond .ok (s.txr off).tRes, rfl, ?_⟩
    rw [State.respond_env, State.respond_tRes, State.respond_wCnt]
    exact ⟨s.txr_readEffect off, s.txr_wCnt off⟩
  · refine ⟨(s.txw (offDir r) (dirByte ao)).respond .ok 0x00, rfl, ?_⟩
    rw [State.respond_env, State.respond_wCnt, ← offDir_eq]
    exact ⟨s.txw_wCnt _ _, s.txw_writeEffect (offDir r) (dirByte ao)⟩
  · refine ⟨(s.txr (offIn r)).respond .ok (s.txr (offIn r)).tRes, rfl, ?_⟩
    rw [State.respond_env, State.respond_tRes, State.respond_wCnt, ← offIn_eq]
    exact ⟨s.txr_wCnt _, s.txr_readEffect (offIn r)⟩

end Sys2Proof.Machine
end

section
/-! PROOFS. TRACE as whole transactions and the part of one in progress (O50) of 20_memory.md. A command appends whole
transactions; a small step appends the next entry of the transaction in progress, or nothing. -/

namespace Sys2Proof.Machine

/-! ### What a whole command appends (R68) -/

/-- A whole command appends whole transactions to TRACE: those of its pseudocode, in its order. -/
theorem exec_appends_transactions {i : Instr} {s t : State} (h : exec i s = .next t) (hi : i.hostIssuable = true) :
    ∃ txs : List Transaction, t.trace = s.trace ++ txs.flatMap Transaction.entries := by
  cases i with
  | wrreg off val => cases h; exact ⟨[.write off val], by simp [Transaction.entries]⟩
  | rdreg off => cases h; exact ⟨[.read off (s.txr off).tRes], by simp [Transaction.entries]⟩
  | setdir r ao => cases h; exact ⟨[.write (offDir r) (dirByte ao)], by simp [Transaction.entries]⟩
  | rdin r => cases h; exact ⟨[.read (offIn r) (s.txr (offIn r)).tRes], by simp [Transaction.entries]⟩
  | wrbit p b =>
    cases h
    split
    · exact ⟨[], by simp⟩
    · exact ⟨[.write (s.pinOffset p) (s.pinByte p b)], by simp [Transaction.entries]⟩
  | allhi =>
    cases h
    split
    · exact ⟨[], by simp⟩
    · exact ⟨[.write (offOut .set1) (s.allHigh .set1), .write (offOut .set2) (s.allHigh .set2)],
        by simp [Transaction.entries]⟩
  | alllo =>
    cases h
    split
    · exact ⟨[], by simp⟩
    · exact ⟨[.write (offOut .set1) 0x00, .write (offOut .set2) 0x00], by simp [Transaction.entries]⟩
  | swout =>
    cases h
    exact ⟨[.write (offDir .set1) 0xFF, .write (offDir .set2) 0xFF], by simp [Transaction.entries]⟩
  | swin =>
    cases h
    exact ⟨[.write (offDir .set1) 0x00, .write (offDir .set2) 0x00, .write (offDir .set1) 0xFF,
      .write (offDir .set2) 0xFF, .write (offOut .set1) 0x00, .write (offOut .set2) 0x00],
      by simp [Transaction.entries]⟩
  | tick =>
    cases h
    split
    · exact ⟨[], by simp⟩
    · exact ⟨[.read (offIn .set1) (s.txr (offIn .set1)).tRes,
        .read (offIn .set2) (((s.txr (offIn .set1)).keepSample .set1).txr (offIn .set2)).tRes],
        by simp [Transaction.entries]⟩
  | _ => cases hi

/-! ### The part of a transaction that is in progress, phase by phase (R24) -/

section
variable {s : State}

theorem State.partialEntries_sClr (hp : s.ph = .sClr) : s.partialEntries = [] := by
  simp only [State.partialEntries, hp]

theorem State.partialEntries_sCmd (hp : s.ph = .sCmd) : s.partialEntries = [.pw 0x0400 0x42] := by
  simp only [State.partialEntries, hp]

theorem State.partialEntries_sSlv (hp : s.ph = .sSlv) :
    s.partialEntries = [.pw 0x0400 0x42, .pw 0x0403 s.tOff] := by
  simp only [State.partialEntries, hp]

theorem State.partialEntries_sDat (hp : s.ph = .sDat) :
    s.partialEntries = [.pw 0x0400 0x42, .pw 0x0403 s.tOff, .pw 0x0404 0x9C] := by
  simp only [State.partialEntries, hp]

theorem State.partialEntries_sGo_write (hp : s.ph = .sGo) (hr : s.tRd = false) :
    s.partialEntries = [.pw 0x0400 0x42, .pw 0x0403 s.tOff, .pw 0x0404 0x9C, .pw 0x0405 s.tVal] := by
  simp only [State.partialEntries, hp, hr]; rfl

theorem State.partialEntries_sGo_read (hp : s.ph = .sGo) (hr : s.tRd = true) :
    s.partialEntries = [.pw 0x0400 0x42, .pw 0x0403 s.tOff, .pw 0x0404 0x9D] := by
  simp only [State.partialEntries, hp, hr]; rfl

theorem State.partialEntries_sWait_write (hp : s.ph = .sWait) (hr : s.tRd = false) :
    s.partialEntries =
      [.pw 0x0400 0x42, .pw 0x0403 s.tOff, .pw 0x0404 0x9C, .pw 0x0405 s.tVal, .pw 0x0402 0x48] := by
  simp only [State.partialEntries, hp, hr]; rfl

theorem State.partialEntries_sWait_read (hp : s.ph = .sWait) (hr : s.tRd = true) :
    s.partialEntries = [.pw 0x0400 0x42, .pw 0x0403 s.tOff, .pw 0x0404 0x9D, .pw 0x0402 0x48] := by
  simp only [State.partialEntries, hp, hr]; rfl

theorem State.partialEntries_sSmp (hp : s.ph = .sSmp) :
    s.partialEntries = [.pw 0x0400 0x42, .pw 0x0403 s.tOff, .pw 0x0404 0x9D, .pw 0x0402 0x48, .wait 2] := by
  simp only [State.partialEntries, hp]; rfl

end

/-! ### How the invariant is kept -/

/-- A TRACE of whole transactions. -/
def WholeTrace (tr : List TraceEntry) : Prop := ∃ txs : List Transaction, tr = txs.flatMap Transaction.entries

theorem WholeTrace.nil : WholeTrace [] := ⟨[], rfl⟩

theorem WholeTrace.append {tr : List TraceEntry} (h : WholeTrace tr) (txs : List Transaction) :
    WholeTrace (tr ++ txs.flatMap Transaction.entries) := by
  obtain ⟨txs', rfl⟩ := h
  exact ⟨txs' ++ txs, List.flatMap_append.symm⟩

section
variable {s t : State} {e : TraceEntry}

/-- An idle block stands in no transaction. -/
theorem TraceInv.ph_of_idle (h : TraceInv s) (hidle : s.busy = false) : s.ph = .sClr := by
  obtain ⟨hph, -⟩ := h
  exact hph hidle

/-- SET_DATA is a step of write transactions alone (R24). -/
theorem TraceInv.tRd_of_sDat (h : TraceInv s) (hp : s.ph = .sDat) : s.tRd = false := by
  obtain ⟨-, hdat, -⟩ := h
  exact hdat hp

/-- Outside a transaction TRACE is whole. -/
theorem TraceInv.whole (h : TraceInv s) (hp : s.ph = .sClr) : WholeTrace s.trace := by
  obtain ⟨-, -, -, txs, htrace⟩ := h
  exact ⟨txs, by rw [htrace, State.partialEntries_sClr hp, List.append_nil]⟩

theorem TraceInv.of_whole (hp : s.ph = .sClr) (h : WholeTrace s.trace) : TraceInv s := by
  obtain ⟨txs, htrace⟩ := h
  refine ⟨fun _ => hp, fun hdat => ?_, fun hsmp => ?_, txs, ?_⟩
  · rw [hp] at hdat; cases hdat
  · rw [hp] at hsmp; cases hsmp
  · rw [htrace, State.partialEntries_sClr hp, List.append_nil]

/-- A small step that performs the next step of the transaction in progress. -/
theorem TraceInv.extend (h : TraceInv s) (htrace : t.trace = s.trace ++ [e])
    (hpartial : t.partialEntries = s.partialEntries ++ [e]) (hbusy : t.busy = true)
    (hdat : t.ph = .sDat → t.tRd = false) (hsmp : t.ph = .sSmp → t.tRd = true) : TraceInv t := by
  obtain ⟨-, -, -, txs, hs⟩ := h
  refine ⟨fun hidle => ?_, hdat, hsmp, txs, ?_⟩
  · rw [hbusy] at hidle; cases hidle
  · rw [htrace, hs, hpartial, List.append_assoc]

/-- A small step that performs the last step of the transaction in progress. -/
theorem TraceInv.complete (h : TraceInv s) {tx : Transaction} (htrace : t.trace = s.trace ++ [e])
    (hpartial : s.partialEntries ++ [e] = tx.entries) (hp : t.ph = .sClr) : TraceInv t := by
  obtain ⟨-, -, -, txs, hs⟩ := h
  refine .of_whole hp ⟨txs ++ [tx], ?_⟩
  rw [htrace, hs, List.append_assoc, hpartial, List.flatMap_append, List.flatMap_singleton]

/-- The first step of a transaction item is the first of its transaction; no other item touches TRACE. -/
theorem State.startItem_traceInv {item : Item} (h : s.startItem item = .next t) (hs : TraceInv s)
    (hp : s.ph = .sClr) (hbusy : s.busy = true) : TraceInv t := by
  have hwhole := hs.whole hp
  have hclr := State.partialEntries_sClr hp
  cases item with
  | write | read => cases h; exact hs.extend rfl (by rw [hclr]; rfl) hbusy nofun nofun
  | guard rejected => cases h; cases rejected <;> exact .of_whole rfl hwhole
  | modeTest skip => cases h; cases skip <;> exact .of_whole (by simp) (by simpa using hwhole)
  | endTick => cases h; exact .of_whole (by simp) (by simpa using hwhole)
  | shadow | keep => cases h; exact .of_whole rfl (by simpa using hwhole)
  | _ => cases h; exact .of_whole rfl hwhole

/-- The end of a wait completes a write transaction, and is followed by the sample in a read transaction (R124). -/
theorem State.endWait_traceInv (hs : TraceInv s) (hp : s.ph = .sWait) (hbusy : s.busy = true) : TraceInv s.endWait := by
  cases hr : s.tRd with
  | false =>
    rw [State.endWait_of_write hr]
    exact hs.complete (tx := .write s.tOff s.tVal) rfl (by rw [State.partialEntries_sWait_write hp hr]; rfl) rfl
  | true =>
    rw [State.endWait_of_read hr]
    exact hs.extend rfl (by rw [State.partialEntries_sWait_read hp hr]; rfl) hbusy nofun (fun _ => hr)

/-- GO is the last port write of a transaction in either direction (R134). -/
theorem State.startTransfer_traceInv (hs : TraceInv s) (hp : s.ph = .sGo) (hbusy : s.busy = true) :
    TraceInv s.startTransfer := by
  refine hs.extend rfl ?_ hbusy nofun nofun
  cases hr : s.tRd with
  | false => rw [State.partialEntries_sGo_write hp hr, State.partialEntries_sWait_write rfl (by exact hr)]; rfl
  | true => rw [State.partialEntries_sGo_read hp hr, State.partialEntries_sWait_read rfl (by exact hr)]; rfl

/-- A small step performs the next step of the transaction in progress, or none (R68, R123). -/
theorem State.microStep_traceInv {tu : Bool} (h : s.microStep tu = .next t) (hs : TraceInv s)
    (hbusy : s.busy = true) : TraceInv t := by
  rcases State.microStep_cases h with ⟨hp, -, -, rfl⟩ | ⟨hp, _, _, -, -, hitem⟩ | ⟨hp, rfl⟩ | ⟨hp, hr, rfl⟩
    | ⟨hp, hr, rfl⟩ | ⟨hp, rfl⟩ | ⟨hp, rfl⟩ | ⟨hp, rfl⟩ | ⟨hp, rfl⟩
  · exact .of_whole rfl (hs.whole hp)
  · exact State.startItem_traceInv hitem hs hp hbusy
  · exact hs.extend rfl (by rw [State.partialEntries_sCmd hp]; rfl) hbusy nofun nofun
  · refine hs.extend rfl ?_ hbusy nofun nofun
    rw [State.partialEntries_sSlv hp, State.partialEntries_sGo_read rfl (by exact hr)]; rfl
  · exact hs.extend rfl (by rw [State.partialEntries_sSlv hp]; rfl) hbusy (fun _ => hr) nofun
  · refine hs.extend rfl ?_ hbusy nofun nofun
    rw [State.partialEntries_sDat hp, State.partialEntries_sGo_write rfl (by exact hs.tRd_of_sDat hp)]; rfl
  · exact State.startTransfer_traceInv hs hp hbusy
  · rcases s.waitStep_cases tu with hw | hw | hw <;> rw [hw]
    · exact hs
    · exact hs
    · exact State.endWait_traceInv hs hp hbusy
  · exact hs.complete (tx := .read s.tOff (s.env.readByte portData)) rfl
      (by rw [State.partialEntries_sSmp hp]; rfl) rfl

theorem State.clocked_traceInv (h : TraceInv s) : TraceInv s.clocked := by
  rw [State.clocked_eq]
  exact h

/-- A command started by a block that stands in no transaction (R10): run whole, or accepted with TRACE as it was. -/
theorem TraceInv.of_started {w : CmdWord} {i : Instr} {src : Source} (hi : i.hostIssuable = true)
    (h : (s.grain = .big ∧ exec i (s.accept src w) = .next t) ∨ (s.grain = .small ∧ t = s.accept src w))
    (hs : WholeTrace s.trace) : TraceInv t := by
  rcases h with ⟨-, hexec⟩ | ⟨-, rfl⟩
  · obtain ⟨-, -, hph⟩ := exec_idle hi hexec
    obtain ⟨txs, htrace⟩ := exec_appends_transactions hexec hi
    exact .of_whole hph (htrace ▸ hs.append txs)
  · exact .of_whole rfl hs

/-- Every step that answers keeps the invariant, in both grains. -/
theorem step_traceInv (h : TraceInv s) (hstep : step s = .next t) : TraceInv t := by
  have hclocked := State.clocked_traceInv h
  have hwhole : s.busy = false → WholeTrace s.clocked.trace := fun hidle =>
    hclocked.whole (hclocked.ph_of_idle ((State.clocked_busy s).trans hidle))
  obtain ⟨-, hclock⟩ := step_clockStep hstep
  cases hclock with
  | reset _ ht => rw [ht]; exact .of_whole rfl .nil
  | inert _ _ ht | idle _ _ _ _ ht => rw [ht]; exact hclocked
  | busy _ _ hbusy hmicro => exact State.microStep_traceInv hmicro hclocked ((State.clocked_busy s).trans hbusy)
  | tick _ _ hidle _ _ htick => exact .of_started rfl (State.takeTick_cases htick) (hwhole hidle)
  | word w rest _ _ hidle _ _ hword =>
    rcases State.takeCommand_started hword with ⟨-, -, rfl⟩ | ⟨i, hd, hstarted⟩
    · exact .of_whole rfl (hwhole hidle)
    · exact .of_started (s := { s.clocked with cmds := rest }) (hostIssuable_of_decodeCmd hd) hstarted (hwhole hidle)

end

/-- Settles O50: a step keeps the invariant, and an idle block stands in no transaction. -/
theorem traceStaysWholeTransactions : Obligations.TraceStaysWholeTransactions := by
  unfold Obligations.TraceStaysWholeTransactions
  intro s t h hstep
  have ht := step_traceInv h hstep
  exact ⟨ht, fun hidle => ht.whole (ht.ph_of_idle hidle)⟩

end Sys2Proof.Machine
end

section
/-! PROOFS. The statements of 30_encoding.md: encoder and decoder invert one another (O1, O2), the decoder and the
independent check of well-formedness agree (O3, O4), every port operation performed has one of the seven words of R92
(O13, O51), and an ill-formed command word is answered without effect (O37). -/

namespace Sys2Proof

/-! ### Operands and operand bytes (R96, R97) -/

theorem RegSet.ofBit_toBit (r : RegSet) : RegSet.ofBit r.toBit = r := by cases r <;> rfl

theorem RegSet.toBit_ofBit (b : Bool) : (RegSet.ofBit b).toBit = b := by cases b <;> rfl

theorem bitByte_reserved (b : Bool) : bitByte b &&& 0xFE#8 = 0 := by cases b <;> rfl

theorem bitByte_bit (b : Bool) : (bitByte b).getLsbD 0 = b := by cases b <;> rfl

/-- A byte whose bits 7..1 are zero is the one its bit 0 makes. -/
theorem bitByte_getLsbD {x : Byte} (h : x &&& 0xFE#8 = 0) : bitByte (x.getLsbD 0) = x := by
  revert x; decide

theorem pinByte_reserved (p : LogicalPin) : BitVec.ofNat 8 p.val &&& 0xF8#8 = 0 := by
  revert p; decide

theorem pin_of_pinByte (p : LogicalPin) : Fin.ofNat 8 (BitVec.ofNat 8 p.val).toNat = p := by
  revert p; decide

/-- A byte whose bits 7..3 are zero is the one of the pin it names. -/
theorem pinByte_ofNat {x : Byte} (h : x &&& 0xF8#8 = 0) : BitVec.ofNat 8 (Fin.ofNat 8 x.toNat).val = x := by
  revert x; decide

/-! ### Encoder and decoder invert one another (R91, R92, R95, R96) -/

/-- The word of each instruction decodes to it: its fields are those the encoder wrote, and each operand is read back
from its field. -/
theorem decode_encode (i : Instr) : decode (encode i) = .ok i := by
  cases i with
  | wrreg | rdreg | setdir | wrbit | rdin =>
    simp only [encode, decode, decodeCmd, CmdWord.op_ofBytes, CmdWord.a_ofBytes, CmdWord.b_ofBytes, bitByte_reserved,
      pinByte_reserved, bitByte_bit, RegSet.ofBit_toBit, pin_of_pinByte]
    rfl
  | setCmd | setData =>
    simp only [encode, decode, decodePort, PortWord.we_ofFields, PortWord.port_ofFields, PortWord.data_ofFields]
    rfl
  | swout | swin | allhi | alllo | tick | stClr | setSlvW | setSlvR | go | getData => rfl

/-- A command word that decodes is the encoding of what it decodes to: its opcode byte is the one the decoder matched,
and its reserved bits are zero. -/
theorem encode_of_decodeCmd {w : CmdWord} {i : Instr} (h : decodeCmd w = .ok i) : encode i = .cmd w := by
  rw [← CmdWord.ofBytes_fields w]
  unfold decodeCmd at h
  dsimp only at h
  generalize CmdWord.op w = op, CmdWord.a w = a, CmdWord.b w = b at h ⊢
  split at h
  case h_11 => cases h -- no opcode
  all_goals rename_i hop; obtain ⟨-, rfl⟩ := BitVec.toNat_eq_nat.mp hop
  case h_1 => cases h; rfl -- WRREG has no reserved bit
  all_goals
    split at h <;> cases h
    rename_i hz
    simp only [Bool.and_eq_true, beq_iff_eq] at hz
  case h_2 => rw [hz]; rfl -- RDREG
  all_goals obtain ⟨ha, hb⟩ := hz
  case h_3 => simp only [encode, RegSet.toBit_ofBit, bitByte_getLsbD ha, bitByte_getLsbD hb]; rfl -- SETDIR
  case h_4 => simp only [encode, pinByte_ofNat ha, bitByte_getLsbD hb]; rfl -- WRBIT
  case h_5 => simp only [encode, RegSet.toBit_ofBit, bitByte_getLsbD ha, hb]; rfl -- RDIN
  all_goals rw [ha, hb]; rfl

/-- A port-operation word that decodes is the encoding of what it decodes to: its write bit and port are those the
decoder matched, and so is its datum where R92 fixes it. -/
theorem encode_of_decodePort {w : PortWord} {i : Instr} (h : decodePort w = .ok i) : encode i = .port w := by
  rw [← PortWord.ofFields_fields w]
  unfold decodePort at h
  dsimp only at h
  generalize PortWord.we w = we, PortWord.port w = p, PortWord.data w = d at h ⊢
  split at h
  case h_7 => cases h -- no port operation
  all_goals rename_i hp; obtain ⟨-, rfl⟩ := BitVec.toNat_eq_nat.mp hp
  case h_2 => cases h; rfl -- SET_CMD
  case h_4 => cases h; rfl -- SET_DATA
  case h_3 => -- SET_SLV_W and SET_SLV_R
    split at h
    · cases h; rename_i hd; rw [eq_of_beq hd]; rfl
    · split at h <;> cases h
      rename_i hd; rw [eq_of_beq hd]; rfl
  all_goals
    split at h <;> cases h
    rename_i hd
    rw [eq_of_beq hd]
    rfl

/-! ### The decoder and the check of well-formedness (R92, R99, R138) -/

/-- The word of each instruction is well formed. -/
theorem encode_wellFormed (i : Instr) : (encode i).wellFormed = true := by
  cases i with
  | wrreg off val => exact Laws.WellFormedEncoding.wrreg off val
  | rdreg off => exact Laws.WellFormedEncoding.rdreg off
  | setdir r ao => exact Laws.WellFormedEncoding.setdir r ao
  | wrbit p h => exact Laws.WellFormedEncoding.wrbit p h
  | rdin r => exact Laws.WellFormedEncoding.rdin r
  | setCmd off => exact Laws.WellFormedEncoding.setCmd off
  | setData val => exact Laws.WellFormedEncoding.setData val
  | swout | swin | allhi | alllo | tick | stClr | setSlvW | setSlvR | go | getData => rfl

/-- Bits of a byte field are bits of the word. -/
theorem CmdWord.slice_of_field (w : CmdWord) (base lo len : Nat) (hlen : lo + len ≤ 8) :
    CmdWord.slice w (base + lo) len = ((w.extractLsb' base 8).extractLsb' lo len).toNat := by
  rw [CmdWord.slice]
  congr 1
  ext k hk
  simp
  grind

/-- The bits 7..1 of `a`, as the check of R99 reads them and as the decoder does. -/
theorem CmdWord.slice_a_high (w : CmdWord) : CmdWord.slice w 9 7 = 0 ↔ CmdWord.a w &&& 0xFE#8 = 0 := by
  have hbyte : ∀ x : Byte, (x.extractLsb' 1 7).toNat = 0 ↔ x &&& 0xFE#8 = 0 := by decide
  rw [CmdWord.slice_of_field w 8 1 7 (by decide)]
  exact hbyte (CmdWord.a w)

/-- The bits 7..3 of `a`. -/
theorem CmdWord.slice_a_pin (w : CmdWord) : CmdWord.slice w 11 5 = 0 ↔ CmdWord.a w &&& 0xF8#8 = 0 := by
  have hbyte : ∀ x : Byte, (x.extractLsb' 3 5).toNat = 0 ↔ x &&& 0xF8#8 = 0 := by decide
  rw [CmdWord.slice_of_field w 8 3 5 (by decide)]
  exact hbyte (CmdWord.a w)

/-- The bits 7..1 of `b`. -/
theorem CmdWord.slice_b_high (w : CmdWord) : CmdWord.slice w 1 7 = 0 ↔ CmdWord.b w &&& 0xFE#8 = 0 := by
  have hbyte : ∀ x : Byte, (x.extractLsb' 1 7).toNat = 0 ↔ x &&& 0xFE#8 = 0 := by decide
  rw [CmdWord.slice_of_field w 0 1 7 (by decide)]
  exact hbyte (CmdWord.b w)

/-- The decoder rejects no well-formed command word: one case for each opcode. -/
theorem decodeCmd_of_wellFormed {w : CmdWord} (h : CmdWord.wellFormed w = true) : ∃ i, decodeCmd w = .ok i := by
  have hop : CmdWord.slice w 16 8 = (CmdWord.op w).toNat := rfl
  have ha : CmdWord.slice w 8 8 = 0 ↔ CmdWord.a w = 0 := (BitVec.toNat_eq (x := CmdWord.a w) (y := 0)).symm
  have hb : CmdWord.slice w 0 8 = 0 ↔ CmdWord.b w = 0 := (BitVec.toNat_eq (x := CmdWord.b w) (y := 0)).symm
  simp only [CmdWord.wellFormed, Bool.or_eq_true, Bool.and_eq_true, beq_iff_eq, hop, ha, hb, CmdWord.slice_a_high,
    CmdWord.slice_a_pin, CmdWord.slice_b_high] at h
  unfold decodeCmd
  rcases h with ((((hw | ⟨hw, hz⟩) | ⟨⟨hw, hz⟩, hz'⟩) | ⟨⟨hw, hz⟩, hz'⟩) | ⟨⟨hw, hz⟩, hz'⟩)
    | ⟨⟨(((hw | hw) | hw) | hw) | hw, hz⟩, hz'⟩
  · exact ⟨_, by simp only [hw]; rfl⟩
  · exact ⟨_, by simp only [hw, hz]; rfl⟩
  all_goals exact ⟨_, by simp only [hw, hz, hz']; rfl⟩

/-- The write bit and the port of a port-operation word stand side by side (R91). -/
theorem PortWord.eq_ofFields_of_head {w : PortWord} {we : Bool} {p : Port}
    (h : (w.extractLsb' 8 17).toNat = (BitVec.ofBool we ++ p).toNat) :
    w = PortWord.ofFields we p (PortWord.data w) := by
  rw [PortWord.ofFields, PortWord.data, ← BitVec.eq_of_toNat_eq h]
  ext k hk
  simp
  grind

/-- The decoder rejects none of the seven port operations. -/
theorem decodePort_of_wellFormed {w : PortWord} (h : PortWord.wellFormed w = true) : ∃ i, decodePort w = .ok i := by
  simp only [PortWord.wellFormed, Bool.or_eq_true, beq_iff_eq] at h
  rcases h with (((((rfl | hw) | rfl) | rfl) | hw) | rfl) | rfl
  · exact ⟨.stClr, rfl⟩
  · rw [PortWord.eq_ofFields_of_head (we := true) (p := 0x0403) hw]
    exact ⟨_, decode_encode (.setCmd _)⟩
  · exact ⟨.setSlvW, rfl⟩
  · exact ⟨.setSlvR, rfl⟩
  · rw [PortWord.eq_ofFields_of_head (we := true) (p := 0x0405) hw]
    exact ⟨_, decode_encode (.setData _)⟩
  · exact ⟨.go, rfl⟩
  · exact ⟨.getData, rfl⟩

/-- A word that decodes is the encoding of what it decodes to, in either layer. -/
theorem encode_of_decode {w : CodeWord} {i : Instr} (h : decode w = .ok i) : encode i = w := by
  cases w with
  | cmd w => exact encode_of_decodeCmd h
  | port w => exact encode_of_decodePort h

/-- The decoder and the independent check of R99 and R92 agree. -/
theorem decode_iff_wellFormed (w : CodeWord) : (∃ i, decode w = .ok i) ↔ w.wellFormed = true := by
  constructor
  · rintro ⟨i, h⟩
    exact encode_of_decode h ▸ encode_wellFormed i
  · cases w with
    | cmd w => exact decodeCmd_of_wellFormed
    | port w => exact decodePort_of_wellFormed

/-- The decoder rejects an ill-formed command word. -/
theorem decodeCmd_error_of_not_wellFormed {w : CmdWord} (h : (CodeWord.cmd w).wellFormed = false) :
    ∃ e, decodeCmd w = .error e := by
  cases hd : decodeCmd w with
  | error e => exact ⟨e, rfl⟩
  | ok i => exact absurd ((decode_iff_wellFormed (.cmd w)).mp ⟨i, hd⟩) (by rw [h]; decide)

/-- The words of the seven micro-operations (R92). -/
theorem encode_port_cases {i : Instr} {w : PortWord} (h : encode i = .port w) :
    w = 0x1040042 ∨ (∃ off : Byte, w = PortWord.ofFields true 0x0403 off) ∨ w = 0x104049C ∨ w = 0x104049D
      ∨ (∃ val : Byte, w = PortWord.ofFields true 0x0405 val) ∨ w = 0x1040248 ∨ w = 0x0040500 := by
  cases i with
  | stClr => cases h; exact .inl rfl
  | setCmd off => cases h; exact .inr (.inl ⟨off, rfl⟩)
  | setSlvW => cases h; exact .inr (.inr (.inl rfl))
  | setSlvR => cases h; exact .inr (.inr (.inr (.inl rfl)))
  | setData val => cases h; exact .inr (.inr (.inr (.inr (.inl ⟨val, rfl⟩))))
  | go => cases h; exact .inr (.inr (.inr (.inr (.inr (.inl rfl)))))
  | getData => cases h; exact .inr (.inr (.inr (.inr (.inr (.inr rfl)))))
  | _ => cases h

end Sys2Proof

namespace Sys2Proof.Machine

/-- Settles O1: one case for each instruction. -/
theorem decodeOfEncodeIsIdentity : Obligations.DecodeOfEncodeIsIdentity := decode_encode

/-- Settles O2: one lemma for each of the two layers. -/
theorem encodeOfDecodeIsIdentity : Obligations.EncodeOfDecodeIsIdentity := fun _ _ => encode_of_decode

/-- Settles O3: an accepted word is the encoding of an instruction, and each of those is well formed; a well-formed
word has one of the opcodes, or is one of the seven port operations, and decodes. -/
theorem decoderAcceptsExactlyWellFormedWords : Obligations.DecoderAcceptsExactlyWellFormedWords :=
  ⟨decode_iff_wellFormed, fun _ _ => hostIssuable_of_decodeCmd, fun _ _ => not_hostIssuable_of_decodePort⟩

/-- Settles O4: each word is closed, and the decoder computes. -/
theorem workedEncodingsDecode : Obligations.WorkedEncodingsDecode := ⟨rfl, rfl, rfl⟩

/-! ### The port operations performed (R92, R138) -/

/-- The part of a transaction that is in progress is the beginning of a whole one. -/
theorem State.partialEntries_prefix (s : State) : ∃ tx : Transaction, s.partialEntries <+: tx.entries := by
  unfold State.partialEntries
  cases s.ph with
  | sClr => exact ⟨.write s.tOff s.tVal, List.nil_prefix⟩
  | sCmd => exact ⟨.write s.tOff s.tVal, List.take_prefix 1 (writeEntries s.tOff s.tVal)⟩
  | sSlv => exact ⟨.write s.tOff s.tVal, List.take_prefix 2 (writeEntries s.tOff s.tVal)⟩
  | sDat => exact ⟨.write s.tOff s.tVal, List.take_prefix 3 (writeEntries s.tOff s.tVal)⟩
  | sGo =>
    cases s.tRd
    · exact ⟨.write s.tOff s.tVal, List.take_prefix 4 _⟩
    · exact ⟨.read s.tOff 0, List.take_prefix 3 _⟩
  | sWait =>
    cases s.tRd
    · exact ⟨.write s.tOff s.tVal, List.take_prefix 5 _⟩
    · exact ⟨.read s.tOff 0, List.take_prefix 4 _⟩
  | sSmp => exact ⟨.read s.tOff 0, List.take_prefix 5 _⟩

/-- Every entry of TRACE belongs to a whole transaction. -/
theorem TraceInv.mem_transaction {s : State} (h : TraceInv s) {e : TraceEntry} (he : e ∈ s.trace) :
    ∃ tx : Transaction, e ∈ tx.entries := by
  obtain ⟨-, -, -, txs, htrace⟩ := h
  rw [htrace, List.mem_append, List.mem_flatMap] at he
  rcases he with ⟨tx, -, he⟩ | he
  · exact ⟨tx, he⟩
  · obtain ⟨tx, hprefix⟩ := s.partialEntries_prefix
    exact ⟨tx, hprefix.subset he⟩

/-- The port-operation words of a transaction are those of its micro-operations (R121, R122). -/
theorem Transaction.encode_of_portWord {tx : Transaction} {e : TraceEntry} {w : PortWord} (he : e ∈ tx.entries)
    (hw : e.portWord = some w) : ∃ i : Instr, encode i = .port w := by
  cases tx with
  | write off val =>
    simp only [Transaction.entries, writeEntries, List.mem_cons, List.not_mem_nil, or_false] at he
    rcases he with rfl | rfl | rfl | rfl | rfl | rfl <;> cases hw
    exacts [⟨.stClr, rfl⟩, ⟨.setCmd off, rfl⟩, ⟨.setSlvW, rfl⟩, ⟨.setData val, rfl⟩, ⟨.go, rfl⟩]
  | read off v =>
    simp only [Transaction.entries, readEntries, List.mem_cons, List.not_mem_nil, or_false] at he
    rcases he with rfl | rfl | rfl | rfl | rfl | rfl <;> cases hw
    exacts [⟨.stClr, rfl⟩, ⟨.setCmd off, rfl⟩, ⟨.setSlvR, rfl⟩, ⟨.go, rfl⟩, ⟨.getData, rfl⟩]

/-- Settles O51: TRACE stays made of transactions (O50), and these are made of the seven port operations. -/
theorem traceHoldsOnlyTheSevenPortOperations : Obligations.TraceHoldsOnlyTheSevenPortOperations := by
  unfold Obligations.TraceHoldsOnlyTheSevenPortOperations
  intro s t h hstep e he w hw
  obtain ⟨tx, htx⟩ := (step_traceInv h hstep).mem_transaction he
  obtain ⟨i, hi⟩ := Transaction.encode_of_portWord htx hw
  exact encode_port_cases hi

/-- A micro-operation performs one port operation, the one its word encodes (R92, R138). -/
theorem exec_appends_portOp {i : Instr} {s t : State} (h : exec i s = .next t) (hi : i.hostIssuable = false) :
    ∃ (e : TraceEntry) (w : PortWord), t.trace = s.trace ++ [e] ∧ e.portWord = some w ∧ encode i = .port w := by
  cases i with
  | stClr => cases h; exact ⟨.pw portStatus byteClr, _, rfl, rfl, rfl⟩
  | setCmd off => cases h; exact ⟨.pw portCmd off, _, rfl, rfl, rfl⟩
  | setSlvW => cases h; exact ⟨.pw portSlv slvWrite, _, rfl, rfl, rfl⟩
  | setSlvR => cases h; exact ⟨.pw portSlv slvRead, _, rfl, rfl, rfl⟩
  | setData val => cases h; exact ⟨.pw portData val, _, rfl, rfl, rfl⟩
  | go => cases h; exact ⟨.pw portCtrl byteGo, _, rfl, rfl, rfl⟩
  | getData => cases h; exact ⟨.pr portData (s.env.readByte portData), _, rfl, rfl, rfl⟩
  | _ => cases hi

/-- A micro-operation answers nothing, and leaves MODE, SH, DISP and BUSY to the command it is part of (R138). -/
theorem exec_portOp_frame {i : Instr} {s t : State} (h : exec i s = .next t) (hi : i.hostIssuable = false) :
    t.responses = s.responses ∧ t.rspValid = s.rspValid ∧ t.mode = s.mode ∧ t.sh0 = s.sh0 ∧ t.sh1 = s.sh1
      ∧ t.disp = s.disp ∧ t.busy = s.busy := by
  cases i with
  | stClr | setCmd | setSlvW | setSlvR | setData | go | getData =>
    cases h
    exact ⟨rfl, rfl, rfl, rfl, rfl, rfl, rfl⟩
  | _ => cases hi

/-- A write to STATUS latches nothing (R129; log entry 24). -/
theorem exec_stClr_env {s t : State} (h : exec .stClr s = .next t) : t.env = s.env := by
  cases h
  exact Env.acceptWrite_status s.env byteClr

/-- Settles O13: what a micro-operation appends to TRACE, and its frame. -/
theorem microOperationsAreSingleStepsThatCannotFail : Obligations.MicroOperationsAreSingleStepsThatCannotFail := by
  unfold Obligations.MicroOperationsAreSingleStepsThatCannotFail
  refine ⟨fun i s hi => ?_, fun _ _ => hostIssuable_of_decodeCmd⟩
  obtain ⟨t, h⟩ := exec_answers i s
  obtain ⟨e, w, htrace, hword, hencode⟩ := exec_appends_portOp h hi
  obtain ⟨hresponses, hvalid, hmode, hsh0, hsh1, hdisp, hbusy⟩ := exec_portOp_frame h hi
  refine ⟨t, e, w, h, htrace, hword, hencode, hresponses, hvalid, hmode, hsh0, hsh1, hdisp, hbusy, ?_⟩
  rintro rfl
  exact exec_stClr_env h

/-! ### An ill-formed word (R99, R214) -/

/-- An ill-formed word that is taken leaves the port and is answered ILLEGAL_CMD. -/
theorem State.takeCommand_of_error {w : CmdWord} {e : DecodeError} (h : decodeCmd w = .error e) (s : State)
    (rest : List CmdWord) : s.takeCommand w rest = .next (State.respond { s with cmds := rest } .illegalCmd 0x00) := by
  simp only [State.takeCommand, h, State.raise_eq]

/-- Settles O37: the waiting word is taken, and the decoder rejects it before its command looks at MODE. -/
theorem illegalWordIsAnsweredWithoutEffect : Obligations.IllegalWordIsAnsweredWithoutEffect := by
  unfold Obligations.IllegalWordIsAnsweredWithoutEffect
  rintro s t w rest rfl hf hr he hb hc ht hw
  have hen : s.clocked.en = true := (State.countPoll_en _ _).trans he
  have hbusy : s.clocked.busy = false := (State.countPoll_busy _ _).trans hb
  have hcmds : s.clocked.cmds = w :: rest := (State.countPoll_cmds _ _).trans hc
  obtain ⟨e, herror⟩ := decodeCmd_error_of_not_wellFormed hw
  rw [step_of_idle hf hr hen hbusy, State.idleStep_of_word hcmds ht, State.takeCommand_of_error herror]
  rw [← s.clocked_responses]
  rfl

end Sys2Proof.Machine
end

section
/-! PROOFS. The block cannot observe its environment but for the bytes of its reads (O58) of 40_smbus_transactions.md.
Two states that differ in the environment alone, where both environments supply the same bytes, stay so under every
operation; each larger operation is a chain of smaller ones. -/

namespace Sys2Proof.Machine

/-! ### Environments that supply the same bytes (R73, R127) -/

/-- Two oracle environments that supply the same bytes to reads; in all else they are free. -/
structure Env.SameBytes (e f : Env) : Prop where
  oracle : e.kind = .oracle
  oracle' : f.kind = .oracle
  answers : f.answers = e.answers
  draws : f.draws = e.draws

section
variable {e f : Env}

theorem Env.SameBytes.nextByte (h : e.SameBytes f) : f.nextByte = e.nextByte := by
  rw [Env.nextByte, Env.nextByte, h.answers, h.draws]

theorem Env.SameBytes.takeByte (h : e.SameBytes f) : e.takeByte.SameBytes f.takeByte :=
  ⟨h.oracle, h.oracle', congrArg List.tail h.answers, congrArg (· + 1) h.draws⟩

theorem Env.SameBytes.latch (h : e.SameBytes f) (p : Port) (v w : Byte) : (e.latch p v).SameBytes (f.latch p w) :=
  ⟨h.oracle, h.oracle', h.answers, h.draws⟩

/-- Under the oracle a transfer, with whatever effect on the chip, takes no draw (R73, R213). -/
theorem Env.SameBytes.trigger (h : e.SameBytes f) : e.trigger.SameBytes f.trigger := by
  have heq : ∀ {g : Env}, g.kind = .oracle → g.trigger = g.triggerOracle := fun hg => by simp only [Env.trigger, hg]
  rw [heq h.oracle, heq h.oracle']
  exact ⟨h.oracle, h.oracle', h.answers, h.draws⟩

theorem Env.SameBytes.acceptWrite (h : e.SameBytes f) (p : Port) (v : Byte) :
    (e.acceptWrite p v).SameBytes (f.acceptWrite p v) := by
  unfold Env.acceptWrite
  split_ifs
  · exact h.latch p v v
  · exact h.trigger
  · exact h

/-- Under the oracle a read returns the next draw, whatever the port holds (R73). -/
theorem Env.SameBytes.readByte (h : e.SameBytes f) (p : Port) : f.readByte p = e.readByte p := by
  have heq : ∀ {g : Env}, g.kind = .oracle → g.readByte p = g.nextByte := fun hg => by simp [Env.readByte, hg]
  rw [heq h.oracle, heq h.oracle', h.nextByte]

theorem Env.SameBytes.afterRead (h : e.SameBytes f) (p : Port) : (e.afterRead p).SameBytes (f.afterRead p) := by
  simp only [Env.afterRead, h.oracle, h.oracle']
  split_ifs
  · exact h.takeByte.latch portData _ _
  · exact h.takeByte

/-- What either environment does to its chip of its own accord is not what it answers to a read (R255). -/
theorem Env.SameBytes.drift (h : e.SameBytes f) (cs cs' : ChipEffect) : (e.drift cs).SameBytes (f.drift cs') :=
  ⟨by rw [Env.drift_kind, h.oracle], by rw [Env.drift_kind, h.oracle'],
    by rw [Env.drift_answers, Env.drift_answers, h.answers], by rw [Env.drift_draws, Env.drift_draws, h.draws]⟩

theorem Env.SameBytes.forget (h : e.SameBytes f) : e.forget.SameBytes f.forget :=
  ⟨h.oracle, h.oracle', h.answers, h.draws⟩

end

/-! ### The same block in two such environments -/

/-- The state in another environment. -/
def State.withEnv (s : State) (e : Env) : State := { s with env := e }

/-- No item of a micro-program looks at the environment (R123). -/
theorem program_withEnv (s : State) (e : Env) (i : Instr) : program (s.withEnv e) i = program s i := by
  cases i <;> rfl

theorem State.endTick_withEnv (s : State) (e : Env) : (s.withEnv e).endTick = s.endTick.withEnv e := by
  cases h : s.cSrc with
  | host => rw [State.endTick_of_host h, State.endTick_of_host (s := s.withEnv e) h]; rfl
  | timer => rw [State.endTick_of_timer h, State.endTick_of_timer (s := s.withEnv e) h]; rfl

theorem State.endWait_withEnv (s : State) (e : Env) : (s.withEnv e).endWait = s.endWait.withEnv e := by
  cases h : s.tRd with
  | false => rw [State.endWait_of_write h, State.endWait_of_write (s := s.withEnv e) h]; rfl
  | true => rw [State.endWait_of_read h, State.endWait_of_read (s := s.withEnv e) h]; rfl

/-- `t` is `s` in another environment that supplies the same bytes. -/
def State.SameBlock (s t : State) : Prop := ∃ e : Env, s.env.SameBytes e ∧ t = s.withEnv e

section
variable {s t u : State}

/-- An operation that neither reads nor changes the environment. -/
theorem State.SameBlock.update (h : s.SameBlock t) {f : State → State}
    (hf : ∀ (s : State) (e : Env), f (s.withEnv e) = (f s).withEnv e) : (f s).SameBlock (f t) := by
  obtain ⟨e, he, rfl⟩ := h
  have henv : (f s).env = s.env := (congrArg State.env (hf s s.env)).trans rfl
  exact ⟨e, henv ▸ he, hf s e⟩

theorem State.SameBlock.ite {s' t' : State} {c : Prop} [Decidable c] (h : s.SameBlock t) (h' : s'.SameBlock t') :
    (if c then s else s').SameBlock (if c then t else t') := by
  split_ifs
  exacts [h, h']

/-! The two port operations (R9, R38). -/

theorem State.SameBlock.portWrite (h : s.SameBlock t) (p : Port) (v : Byte) :
    (s.portWrite p v).SameBlock (t.portWrite p v) := by
  obtain ⟨e, he, rfl⟩ := h
  exact ⟨_, he.acceptWrite p v, rfl⟩

theorem State.SameBlock.portRead (h : s.SameBlock t) (p : Port) : (s.portRead p).SameBlock (t.portRead p) := by
  obtain ⟨e, he, rfl⟩ := h
  have hread : (s.withEnv e).env.readByte p = s.env.readByte p := he.readByte p
  exact ⟨_, he.afterRead p, by rw [State.portRead, hread]; rfl⟩

/-! The operations that leave the environment. -/

theorem State.SameBlock.toPhase (h : s.SameBlock t) (ph : Phase) : (s.toPhase ph).SameBlock (t.toPhase ph) :=
  h.update (f := (State.toPhase · ph)) fun _ _ => rfl

theorem State.SameBlock.endItem (h : s.SameBlock t) : s.endItem.SameBlock t.endItem := h.update fun _ _ => rfl

theorem State.SameBlock.respond (h : s.SameBlock t) (st : RspStatus) (d : Byte) :
    (s.respond st d).SameBlock (t.respond st d) := h.update (f := (State.respond · st d)) fun _ _ => rfl

/-- A byte read is answered as it was read (R126). -/
theorem State.SameBlock.respondRead (h : s.SameBlock t) : (s.respond .ok s.tRes).SameBlock (t.respond .ok t.tRes) :=
  h.update (f := fun s => s.respond .ok s.tRes) fun _ _ => rfl

theorem State.SameBlock.endTick (h : s.SameBlock t) : s.endTick.SameBlock t.endTick := h.update State.endTick_withEnv

theorem State.SameBlock.endWait (h : s.SameBlock t) : s.endWait.SameBlock t.endWait := h.update State.endWait_withEnv

/-- One pulse of the wait counted. -/
theorem State.SameBlock.countPulse (h : s.SameBlock t) :
    State.SameBlock { s with wCnt := s.wCnt + 1 } { t with wCnt := t.wCnt + 1 } :=
  h.update (f := fun s => { s with wCnt := s.wCnt + 1 }) fun _ _ => rfl

theorem State.SameBlock.waitStep (h : s.SameBlock t) (tu : Bool) : (s.waitStep tu).SameBlock (t.waitStep tu) := by
  have counted := h.countPulse
  have ended := counted.endWait
  obtain ⟨e, -, rfl⟩ := id h
  cases tu with
  | false => exact h
  | true =>
    simp only [State.waitStep, if_true]
    exact ended.ite counted

theorem State.SameBlock.loadWrite (h : s.SameBlock t) (off val : Byte) :
    (s.loadWrite off val).SameBlock (t.loadWrite off val) := h.update (f := (State.loadWrite · off val)) fun _ _ => rfl

theorem State.SameBlock.loadRead (h : s.SameBlock t) (off : Byte) : (s.loadRead off).SameBlock (t.loadRead off) :=
  h.update (f := (State.loadRead · off)) fun _ _ => rfl

theorem State.SameBlock.setSh (h : s.SameBlock t) (r : RegSet) (v : Byte) : (s.setSh r v).SameBlock (t.setSh r v) :=
  h.update (f := (State.setSh · r v)) fun _ _ => by cases r <;> rfl

theorem State.SameBlock.keepSample (h : s.SameBlock t) (r : RegSet) : (s.keepSample r).SameBlock (t.keepSample r) :=
  h.update (f := (State.keepSample · r)) fun _ _ => by cases r <;> rfl

theorem State.SameBlock.showLevels (h : s.SameBlock t) : s.showLevels.SameBlock t.showLevels :=
  h.update fun _ _ => rfl

theorem State.SameBlock.enterOutput (h : s.SameBlock t) : s.enterOutput.SameBlock t.enterOutput :=
  h.update fun _ _ => rfl

theorem State.SameBlock.enterInput (h : s.SameBlock t) : s.enterInput.SameBlock t.enterInput :=
  h.update fun _ _ => rfl

theorem State.SameBlock.zeroShadows (h : s.SameBlock t) : s.zeroShadows.SameBlock t.zeroShadows :=
  h.update fun _ _ => rfl

theorem State.SameBlock.accept (h : s.SameBlock t) (src : Source) (w : CmdWord) :
    (s.accept src w).SameBlock (t.accept src w) := h.update (f := (State.accept · src w)) fun _ _ => rfl

theorem State.SameBlock.leavePort (h : s.SameBlock t) (rest : List CmdWord) :
    State.SameBlock { s with cmds := rest } { t with cmds := rest } :=
  h.update (f := fun s => { s with cmds := rest }) fun _ _ => rfl

/-! The micro-operations and the two transactions (R121, R122, R129 to R135). -/

theorem State.SameBlock.clearStatus (h : s.SameBlock t) : s.clearStatus.SameBlock t.clearStatus :=
  (h.portWrite _ _).toPhase _

theorem State.SameBlock.setTarget (h : s.SameBlock t) (off : Byte) : (s.setTarget off).SameBlock (t.setTarget off) :=
  (h.portWrite _ _).toPhase _

theorem State.SameBlock.addressForWrite (h : s.SameBlock t) : s.addressForWrite.SameBlock t.addressForWrite :=
  (h.portWrite _ _).toPhase _

theorem State.SameBlock.addressForRead (h : s.SameBlock t) : s.addressForRead.SameBlock t.addressForRead :=
  (h.portWrite _ _).toPhase _

theorem State.SameBlock.setPayload (h : s.SameBlock t) (val : Byte) :
    (s.setPayload val).SameBlock (t.setPayload val) := (h.portWrite _ _).toPhase _

theorem State.SameBlock.startTransfer (h : s.SameBlock t) : s.startTransfer.SameBlock t.startTransfer :=
  ((h.portWrite portCtrl byteGo).toPhase .sWait).update (f := fun s => { s with wCnt := 0 }) fun _ _ => rfl

theorem State.SameBlock.sampleData (h : s.SameBlock t) : s.sampleData.SameBlock t.sampleData :=
  (h.portRead _).endItem

theorem State.SameBlock.txw (h : s.SameBlock t) (off val : Byte) : (s.txw off val).SameBlock (t.txw off val) :=
  ((((((h.loadWrite off val).clearStatus).setTarget off).addressForWrite).setPayload val).startTransfer).endWait

theorem State.SameBlock.txr (h : s.SameBlock t) (off : Byte) : (s.txr off).SameBlock (t.txr off) :=
  ((((((h.loadRead off).clearStatus).setTarget off).addressForRead).startTransfer).endWait).sampleData

/-! ### Instructions and small steps -/

/-- An instruction is run alike in both environments: its operands, guards and mode tests are the block's. -/
theorem State.SameBlock.exec {i : Instr} (h : s.SameBlock t) (hu : exec i s = .next u) :
    ∃ v : State, exec i t = .next v ∧ u.SameBlock v := by
  obtain ⟨e, -, rfl⟩ := id h
  have rejected := h.respond .invalidOp 0x00
  cases i with
  | wrreg off val => cases hu; exact ⟨_, rfl, (h.txw off val).respond .ok 0x00⟩
  | rdreg off => cases hu; exact ⟨_, rfl, (h.txr off).respondRead⟩
  | setdir r ao => cases hu; exact ⟨_, rfl, (h.txw (offDir r) (dirByte ao)).respond .ok 0x00⟩
  | rdin r => cases hu; exact ⟨_, rfl, (h.txr (offIn r)).respondRead⟩
  | wrbit p b =>
    cases hu
    have written := (h.txw (s.pinOffset p) (s.pinByte p b)).setSh (s.cfg.pinMap.get p).set (s.pinByte p b)
    exact ⟨_, rfl, rejected.ite (written.respond .ok 0x00)⟩
  | swout =>
    cases hu
    exact ⟨_, rfl, ((h.txw (offDir .set1) 0xFF).txw (offDir .set2) 0xFF).enterOutput.respond .ok 0x01⟩
  | swin =>
    cases hu
    have step1 := (h.txw (offDir .set1) 0x00).txw (offDir .set2) 0x00
    have step3 := (step1.enterInput.txw (offDir .set1) 0xFF).txw (offDir .set2) 0xFF
    have step4 := (step3.zeroShadows.txw (offOut .set1) 0x00).txw (offOut .set2) 0x00
    exact ⟨_, rfl, step4.respond .ok 0x00⟩
  | allhi =>
    cases hu
    have set1 := (h.txw (offOut .set1) (s.allHigh .set1)).setSh .set1 (s.allHigh .set1)
    have set2 := (set1.txw (offOut .set2) (s.allHigh .set2)).setSh .set2 (s.allHigh .set2)
    exact ⟨_, rfl, rejected.ite (set2.respond .ok 0x00)⟩
  | alllo =>
    cases hu
    have set1 := (h.txw (offOut .set1) 0x00).setSh .set1 0x00
    have set2 := (set1.txw (offOut .set2) 0x00).setSh .set2 0x00
    exact ⟨_, rfl, rejected.ite (set2.respond .ok 0x00)⟩
  | tick =>
    cases hu
    have read0 := (h.txr (offIn .set1)).keepSample .set1
    have read1 := (read0.txr (offIn .set2)).keepSample .set2
    exact ⟨_, rfl, h.endTick.ite read1.showLevels.endTick⟩
  | stClr => cases hu; exact ⟨_, rfl, h.clearStatus⟩
  | setCmd off => cases hu; exact ⟨_, rfl, h.setTarget off⟩
  | setSlvW => cases hu; exact ⟨_, rfl, h.addressForWrite⟩
  | setSlvR => cases hu; exact ⟨_, rfl, h.addressForRead⟩
  | setData val => cases hu; exact ⟨_, rfl, h.setPayload val⟩
  | go => cases hu; exact ⟨_, rfl, h.startTransfer⟩
  | getData => cases hu; exact ⟨_, rfl, h.sampleData⟩

theorem State.SameBlock.startItem {item : Item} (h : s.SameBlock t) (hu : s.startItem item = .next u) :
    ∃ v : State, t.startItem item = .next v ∧ u.SameBlock v := by
  cases item with
  | guard rejected => cases hu; exact ⟨_, rfl, (h.respond .invalidOp 0x00).ite h.endItem⟩
  | modeTest skip => cases hu; exact ⟨_, rfl, h.endTick.ite h.endItem⟩
  | write off val => exact (h.loadWrite off val).exec (i := .stClr) hu
  | read off => exact (h.loadRead off).exec (i := .stClr) hu
  | shadow r v => cases hu; exact ⟨_, rfl, (h.setSh r v).endItem⟩
  | zeroShadows => cases hu; exact ⟨_, rfl, h.zeroShadows.endItem⟩
  | enterInput => cases hu; exact ⟨_, rfl, h.enterInput.endItem⟩
  | enterOutput => cases hu; exact ⟨_, rfl, h.enterOutput.endItem⟩
  | keep r => cases hu; exact ⟨_, rfl, (h.keepSample r).endItem⟩
  | showLevels => cases hu; exact ⟨_, rfl, h.showLevels.endItem⟩
  | respond d => cases hu; exact ⟨_, rfl, h.respond .ok d⟩
  | endTick => cases hu; exact ⟨_, rfl, h.endTick⟩

/-- A small step is made alike in both environments: its phase, item and pulse are the block's. -/
theorem State.SameBlock.microStep {tu : Bool} (h : s.SameBlock t) (hu : s.microStep tu = .next u) :
    ∃ v : State, t.microStep tu = .next v ∧ u.SameBlock v := by
  obtain ⟨e, -, rfl⟩ := id h
  have hph : (s.withEnv e).ph = s.ph := rfl
  have hrd : (s.withEnv e).tRd = s.tRd := rfl
  rcases State.microStep_cases hu with ⟨hp, err, hd, rfl⟩ | ⟨hp, i, item, hd, hi, hitem⟩ | ⟨hp, rfl⟩ | ⟨hp, hr, rfl⟩
    | ⟨hp, hr, rfl⟩ | ⟨hp, rfl⟩ | ⟨hp, rfl⟩ | ⟨hp, rfl⟩ | ⟨hp, rfl⟩
  · have hd' : decodeCmd (s.withEnv e).latched = .error err := hd
    exact ⟨_, by rw [State.microStep, hph, hp]; simp only [hd']; rfl, h.respond .illegalCmd 0x00⟩
  · rw [State.microStep_of_item (s := s.withEnv e) hp hd (by rw [program_withEnv]; exact hi)]
    exact h.startItem hitem
  · exact ⟨_, by rw [State.microStep, hph, hp]; rfl, h.setTarget s.tOff⟩
  · exact ⟨_, by rw [State.microStep, hph, hp]; simp only [hrd, hr]; rfl, h.addressForRead⟩
  · exact ⟨_, by rw [State.microStep, hph, hp]; simp only [hrd, hr]; rfl, h.addressForWrite⟩
  · exact ⟨_, by rw [State.microStep, hph, hp]; rfl, h.setPayload s.tVal⟩
  · exact ⟨_, by rw [State.microStep, hph, hp]; rfl, h.startTransfer⟩
  · exact ⟨_, State.microStep_sWait (s := s.withEnv e) hp tu, h.waitStep tu⟩
  · exact ⟨_, by rw [State.microStep, hph, hp]; rfl, h.sampleData⟩

/-! ### The clock step -/

theorem State.SameBlock.start {i : Instr} (h : s.SameBlock t) (hu : s.start i = .next u) :
    ∃ v : State, t.start i = .next v ∧ u.SameBlock v := by
  obtain ⟨e, -, rfl⟩ := id h
  have hgrain : (s.withEnv e).grain = s.grain := rfl
  rcases State.start_cases hu with ⟨hg, hexec⟩ | ⟨hg, rfl⟩
  · simp only [State.start, hgrain, hg]
    exact h.exec hexec
  · exact ⟨_, by simp only [State.start, hgrain, hg], h⟩

theorem State.SameBlock.takeCommand {w : CmdWord} {rest : List CmdWord} (h : s.SameBlock t)
    (hu : s.takeCommand w rest = .next u) : ∃ v : State, t.takeCommand w rest = .next v ∧ u.SameBlock v := by
  rcases State.takeCommand_cases hu with ⟨err, hd, rfl⟩ | ⟨i, hd, hstart⟩
  · exact ⟨_, State.takeCommand_of_error hd t rest, (h.leavePort rest).respond .illegalCmd 0x00⟩
  · rw [State.takeCommand_of_decode hd]
    exact ((h.leavePort rest).accept .host w).start hstart

theorem State.SameBlock.idleStep {tick first : Bool} (h : s.SameBlock t) (hu : s.idleStep tick first = .next u) :
    ∃ v : State, t.idleStep tick first = .next v ∧ u.SameBlock v := by
  have htick : ∀ {u}, s.takeTick = .next u → ∃ v : State, t.takeTick = .next v ∧ u.SameBlock v :=
    (h.accept .timer tickWord).start
  obtain ⟨e, -, rfl⟩ := id h
  have hcmds : (s.withEnv e).cmds = s.cmds := rfl
  unfold State.idleStep at hu ⊢
  rw [hcmds]
  cases hc : s.cmds with
  | nil =>
    simp only [hc] at hu ⊢
    split_ifs at hu ⊢
    · exact htick hu
    · cases hu; exact ⟨_, rfl, h⟩
  | cons w rest =>
    simp only [hc] at hu ⊢
    split_ifs at hu ⊢
    · exact htick hu
    · exact h.takeCommand hu

/-- The work of a clock step is the same in both environments; what they do to the chip in it is not the block's. -/
theorem State.SameBlock.work {c : Cycle} {tick : Bool} (h : s.SameBlock t) (chip : ChipEffect)
    (hu : s.work c tick = .next u) : ∃ v : State, t.work { c with chip := chip } tick = .next v ∧ u.SameBlock v := by
  obtain ⟨e, -, rfl⟩ := id h
  have hen : (s.withEnv e).en = s.en := rfl
  have hbusy : (s.withEnv e).busy = s.busy := rfl
  unfold State.work at hu ⊢
  rw [hen, hbusy]
  split_ifs at hu ⊢
  · exact h.microStep hu
  · exact h.idleStep hu
  · cases hu; exact ⟨_, rfl, h⟩

/-- The input levels move alike, whatever either environment does of its own accord (R36, R255). -/
theorem State.SameBlock.levels (h : s.SameBlock t) (c : Cycle) (chip : ChipEffect) :
    (s.levels c).SameBlock (t.levels { c with chip := chip }) := by
  obtain ⟨e, he, rfl⟩ := h
  refine ⟨e.drift chip, by rw [State.levels_env]; exact he.drift _ _, ?_⟩
  unfold State.levels State.releaseBus State.loaderReports
  dsimp only [State.withEnv]
  split <;> split <;> rfl

theorem State.SameBlock.setPollCnt (h : s.SameBlock t) (n : BitVec 8) :
    State.SameBlock { s with pollCnt := n } { t with pollCnt := n } :=
  h.update (f := fun s => { s with pollCnt := n }) fun _ _ => rfl

theorem State.SameBlock.countPoll (h : s.SameBlock t) (c : Cycle) : (s.countPoll c).SameBlock (t.countPoll c) := by
  have counted := h.setPollCnt (if 199 ≤ s.pollCnt.toNat then 0 else s.pollCnt + 1)
  have cleared := h.setPollCnt 0
  obtain ⟨e, -, rfl⟩ := id h
  exact (counted.ite h).ite cleared

/-- A reset in mid-command leaves nothing known of either environment; the bytes to come are the same (R250, U11). -/
theorem State.SameBlock.blockReset (h : s.SameBlock t) : s.blockReset.SameBlock t.blockReset := by
  obtain ⟨e, he, rfl⟩ := h
  refine ⟨if s.busy then e.forget else e, ?_, rfl⟩
  simp only [State.blockReset]
  split_ifs
  exacts [he.forget, he]

theorem State.SameBlock.tickRaised (h : s.SameBlock t) (c : Cycle) : t.tickRaised c = s.tickRaised c := by
  obtain ⟨e, -, rfl⟩ := h
  rfl

/-- A clock step is the same in both environments, whatever either does to the chip in it. -/
theorem State.SameBlock.clock {c : Cycle} (h : s.SameBlock t) (chip : ChipEffect) (hu : s.clock c = .next u) :
    ∃ v : State, t.clock { c with chip := chip } = .next v ∧ u.SameBlock v := by
  have hlevels := h.levels c chip
  unfold State.clock at hu ⊢
  dsimp only at hu ⊢
  split_ifs at hu ⊢
  · cases hu; exact ⟨_, rfl, hlevels.blockReset⟩
  · have hraised : (t.levels { c with chip := chip }).tickRaised { c with chip := chip } = (s.levels c).tickRaised c :=
      hlevels.tickRaised c
    rw [hraised]
    exact (hlevels.countPoll c).work chip hu

end

/-- Settles O58: a step begins with the same block in two environments, and ends with it. -/
theorem blockCannotObserveTransferFailure : Obligations.BlockCannotObserveTransferFailure := by
  unfold Obligations.BlockCannotObserveTransferFailure
  intro s t e chip hs he hanswers hdraws hstep
  have hbegin : s.beginCycle.SameBlock (s.beginCycle.withEnv e) := ⟨e, ⟨hs, he, hanswers, hdraws⟩, rfl⟩
  obtain ⟨_, hclock, e', hbytes, rfl⟩ := hbegin.clock chip hstep
  exact ⟨e', hclock, hbytes.oracle, hbytes.oracle', hbytes.answers, hbytes.draws⟩

end Sys2Proof.Machine
end

section
/-! PROOFS. The micro-operations (O12, O14, O15) and the two commands of one transaction (O9, O10) of
40_smbus_transactions.md: what each does to its port is a law of the environment, the rest is its frame. -/

namespace Sys2Proof

/-- The packing of a port write: the datum stands below the port, where the word of the port has zeros (R91). -/
theorem PortWord.ofFields_write (p : Port) (d : Byte) :
    PortWord.ofFields true p d = PortWord.ofFields true p 0 ||| d.setWidth 25 := by
  simp only [PortWord.ofFields]
  ext k hk
  simp
  grind

end Sys2Proof

namespace Sys2Proof.Machine

/-! ### Ports (R66 (d)) -/

/-- A latch touches the byte of its port alone. -/
theorem Env.latch_effect (e : Env) (p : Port) (v : Byte) : LatchEffect p v e (e.latch p v) :=
  ⟨rfl, by rw [Env.ioByte_latch, if_pos rfl], fun q hq => by rw [Env.ioByte_latch, if_neg hq]⟩

/-- A read of DATA: a draw that then sits in DATA under the oracle, what DATA holds in ENV_REF. -/
theorem Env.sample_effect (e : Env) : SampleEffect (e.readByte portData) e (e.afterRead portData) := by
  cases hk : e.kind with
  | oracle =>
    have hread : e.readByte portData = e.nextByte := by simp [Env.readByte, hk]
    have hafter : e.afterRead portData = e.takeByte.latch portData e.nextByte := by simp [Env.afterRead, hk]
    rw [SampleEffect, if_pos hk, hread, hafter]
    exact ⟨rfl, e.takeByte.latch_effect portData e.nextByte⟩
  | reference =>
    have hread : e.readByte portData = e.ioByte portData := by simp [Env.readByte, hk]
    have hafter : e.afterRead portData = e := by simp [Env.afterRead, hk]
    rw [SampleEffect, if_neg (by rw [hk]; decide), hread, hafter]
    exact ⟨rfl, rfl⟩

/-- Under the oracle a read transfer returns the next draw (R73). -/
theorem Env.readRequest_readByte_of_oracle {e : Env} (h : e.kind = .oracle) (off : Byte) :
    (e.readRequest off).readByte portData = e.nextByte := by
  obtain ⟨-, -, -, -, -, -, hbyte, -⟩ := e.read_effect off
  rw [if_pos (.inl h)] at hbyte
  obtain ⟨hdraw, -⟩ := hbyte
  exact hdraw

/-! ### The micro-operations (R129 to R135) -/

section
variable {s : State}

theorem State.microStep_sCmd (h : s.ph = .sCmd) (tu : Bool) : s.microStep tu = exec (.setCmd s.tOff) s := by
  rw [State.microStep, h]

theorem State.microStep_sSlv (h : s.ph = .sSlv) (tu : Bool) :
    s.microStep tu = if s.tRd then exec .setSlvR s else exec .setSlvW s := by rw [State.microStep, h]

theorem State.microStep_sDat (h : s.ph = .sDat) (tu : Bool) : s.microStep tu = exec (.setData s.tVal) s := by
  rw [State.microStep, h]

end

/-- Settles O12: each of the five is one port write and the next phase. -/
theorem microOperationsWriteTheirPort : Obligations.MicroOperationsWriteTheirPort := by
  unfold Obligations.MicroOperationsWriteTheirPort
  intro s tu
  have latched := s.env.latch_effect
  refine ⟨⟨rfl, _, rfl⟩, fun off => ⟨?_, _, latched portCmd off, rfl⟩, ⟨rfl, _, latched portSlv slvWrite, rfl⟩,
    ⟨rfl, _, latched portSlv slvRead, rfl⟩, fun val => ⟨?_, _, latched portData val, rfl⟩,
    fun h => State.microStep_sCmd h tu, fun h => State.microStep_sSlv h tu, fun h => State.microStep_sDat h tu⟩
  · exact congrArg CodeWord.port (PortWord.ofFields_write 0x0403 off)
  · exact congrArg CodeWord.port (PortWord.ofFields_write 0x0405 val)

/-- Settles O14: BYTE_GO at CTRL is the trigger. -/
theorem goTriggersTheTransfer : Obligations.GoTriggersTheTransfer := fun s => ⟨_, s.env.trigger_effect, rfl⟩

/-- Settles O15: the sample is a read of DATA. -/
theorem getDataSamplesTheDataPort : Obligations.GetDataSamplesTheDataPort := fun s => ⟨_, _, s.env.sample_effect, rfl⟩

/-! ### WRREG and RDREG (R125, R126) -/

/-- Settles O9: WRREG is TXW and the response. -/
theorem wrregPerformsOneWriteTransaction : Obligations.WrregPerformsOneWriteTransaction := by
  unfold Obligations.WrregPerformsOneWriteTransaction
  intro off val s
  refine ⟨rfl, s.env.writeTransfer off val, 0, ?_⟩
  have hexec : exec (.wrreg off val) s = .next ((s.txw off val).respond .ok 0x00) := rfl
  rw [hexec, State.txw_eq]
  rfl

/-- The whole next state of RDREG, with the byte that the environment supplies. -/
theorem exec_rdreg_eq (off : Byte) (s : State) {v : Byte} (hv : (s.env.readRequest off).readByte portData = v) :
    exec (.rdreg off) s = .next { s with
      trace := s.trace ++ readEntries off v, tRd := true, tOff := off, tRes := v, wCnt := 0
      rspSt := .ok, rspD := v, rspValid := true, responses := s.responses ++ [⟨.ok, v⟩]
      busy := false, cs := 0, ph := .sClr, env := (s.env.readRequest off).afterRead portData } := by
  have hexec : exec (.rdreg off) s = .next ((s.txr off).respond .ok (s.txr off).tRes) := rfl
  rw [hexec, State.txr_eq, hv]
  rfl

/-- Settles O10: RDREG is TXR and the response; an oracle whose next answer is `v` supplies `v`. -/
theorem rdregPerformsOneReadTransaction : Obligations.RdregPerformsOneReadTransaction := by
  unfold Obligations.RdregPerformsOneReadTransaction
  refine fun off s => ⟨rfl, ⟨_, _, _, exec_rdreg_eq off s rfl⟩, fun v => ?_⟩
  have hv : (Env.readRequest { Env.unspecified with answers := [v] } off).readByte portData = v :=
    Env.readRequest_readByte_of_oracle rfl off
  exact ⟨_, _, _, exec_rdreg_eq off { s with env := { Env.unspecified with answers := [v] } } hv⟩

end Sys2Proof.Machine
end

section
/-! PROOFS. The wait (O16) of 40_smbus_transactions.md: pulses count up to its units, and the next one ends it. -/

namespace Sys2Proof.Machine

/-- The state with `n` pulses counted in W_CNT. -/
def State.withPulses (s : State) (n : BitVec 2) : State := { s with wCnt := n }

/-- The wait of a write transaction has one unit, and its end is the end of the item. -/
theorem State.endWait_withPulses_of_write {s : State} (hr : s.tRd = false) (n : BitVec 2) :
    (s.withPulses n).endWait =
      { s with wCnt := n, trace := s.trace ++ [.wait 1], cs := s.cs + 1, ph := .sClr } :=
  State.endWait_of_write (s := s.withPulses n) hr

/-- The wait of a read transaction has two units, and the sample follows it. -/
theorem State.endWait_withPulses_of_read {s : State} (hr : s.tRd = true) (n : BitVec 2) :
    (s.withPulses n).endWait = { s with wCnt := n, trace := s.trace ++ [.wait 2], ph := .sSmp } :=
  State.endWait_of_read (s := s.withPulses n) hr

/-- A pulse in the wait is counted, and the one that finds its units counted ends it (R124, D15). -/
theorem State.waitStep_pulse (s : State) :
    s.waitStep true = if s.wCnt = BitVec.ofNat 2 (waitUnits s.tRd) then (s.withPulses (s.wCnt + 1)).endWait
      else s.withPulses (s.wCnt + 1) := by
  have hlast : ∀ (n : BitVec 2) (rd : Bool), (n + 1).toNat = waitUnits rd + 1 ↔ n = BitVec.ofNat 2 (waitUnits rd) := by
    decide
  simp only [State.waitStep, if_true, hlast]
  rfl

theorem State.waitStep_pulse_of_write {s : State} (hr : s.tRd = false) :
    s.waitStep true = if s.wCnt = 1 then
        { s with wCnt := 2, trace := s.trace ++ [.wait 1], cs := s.cs + 1, ph := .sClr }
      else { s with wCnt := s.wCnt + 1 } := by
  rw [State.waitStep_pulse, State.endWait_withPulses_of_write hr, show waitUnits s.tRd = 1 by rw [hr]; rfl]
  exact ite_congr rfl (fun hlast => by rw [hlast]; rfl) fun _ => rfl

theorem State.waitStep_pulse_of_read {s : State} (hr : s.tRd = true) :
    s.waitStep true = if s.wCnt = 2 then { s with wCnt := 3, trace := s.trace ++ [.wait 2], ph := .sSmp }
      else { s with wCnt := s.wCnt + 1 } := by
  rw [State.waitStep_pulse, State.endWait_withPulses_of_read hr, show waitUnits s.tRd = 2 by rw [hr]; rfl]
  exact ite_congr rfl (fun hlast => by rw [hlast]; rfl) fun _ => rfl

/-- From a cleared counter, pulses up to the units of the wait only count. -/
theorem State.iterate_waitStep_of_le {s : State} (h0 : s.wCnt = 0) {k : Nat} (hk : k ≤ waitUnits s.tRd) :
    (fun u : State => u.waitStep true)^[k] s = s.withPulses (BitVec.ofNat 2 k) := by
  induction k with
  | zero =>
    show s = s.withPulses 0
    rw [← h0]
    rfl
  | succ k ih =>
    have hne : BitVec.ofNat 2 k ≠ BitVec.ofNat 2 (waitUnits s.tRd) := by
      have hunits : waitUnits s.tRd ≤ 2 := by cases s.tRd <;> decide
      intro heq
      have := congrArg BitVec.toNat heq
      simp only [BitVec.toNat_ofNat] at this
      omega
    rw [Function.iterate_succ_apply', ih (Nat.le_of_succ_le hk), State.waitStep_pulse, if_neg (by exact hne),
      BitVec.ofNat_add]
    rfl

/-- The pulse after them ends the wait. -/
theorem State.iterate_waitStep_end {s : State} (h0 : s.wCnt = 0) :
    (fun u : State => u.waitStep true)^[waitUnits s.tRd + 1] s =
      (s.withPulses (BitVec.ofNat 2 (waitUnits s.tRd) + 1)).endWait := by
  rw [Function.iterate_succ_apply', State.iterate_waitStep_of_le h0 le_rfl, State.waitStep_pulse, if_pos (by rfl)]
  rfl

/-- Settles O16: one pulse, and the pulses from a cleared counter. -/
theorem waitEndsOnThePulseAfterItsUnits : Obligations.WaitEndsOnThePulseAfterItsUnits := by
  unfold Obligations.WaitEndsOnThePulseAfterItsUnits
  intro s hp
  refine ⟨State.microStep_sWait hp false, ?_, State.microStep_sWait hp,
    fun h0 => ⟨fun k hk => State.iterate_waitStep_of_le h0 hk, fun hr => ?_, fun hr => ?_⟩⟩
  · rw [State.microStep_sWait hp]
    rcases Bool.eq_false_or_eq_true s.tRd with hr | hr
    · rw [if_pos hr, State.waitStep_pulse_of_read hr]
    · rw [if_neg (by rw [hr]; decide), State.waitStep_pulse_of_write hr]
  · rw [← State.endWait_withPulses_of_write hr]
    have hend := State.iterate_waitStep_end h0
    rwa [hr] at hend
  · rw [← State.endWait_withPulses_of_read hr]
    have hend := State.iterate_waitStep_end h0
    rwa [hr] at hend

end Sys2Proof.Machine
end

section
/-! PROOFS. The counts of port operations per command (O36) of 40_smbus_transactions.md: a command is its transactions,
and each transaction has its counts. -/

namespace Sys2Proof.Machine

/-- Port writes, port reads and least units waited of a TRACE (R137). -/
def opCounts (tr : List TraceEntry) : Nat × Nat × Nat := (portWrites tr, portReads tr, leastUnits tr)

theorem opCounts_append (tr tr' : List TraceEntry) : opCounts (tr ++ tr') = opCounts tr + opCounts tr' := by
  simp only [opCounts, portWrites, portReads, leastUnits, List.countP_append, List.map_append, List.sum_append]
  rfl

/-- A write transaction: five port writes and a wait of one unit (R121). -/
theorem State.opCounts_txw (s : State) (off val : Byte) :
    opCounts (s.txw off val).trace = opCounts s.trace + (5, 0, 1) := by
  rw [State.txw_trace, opCounts_append]
  rfl

/-- A read transaction: four port writes, a wait of two units and one port read (R122). -/
theorem State.opCounts_txr (s : State) (off : Byte) :
    opCounts (s.txr off).trace = opCounts s.trace + (4, 1, 2) := by
  rw [State.txr_trace, opCounts_append]
  rfl

/-- WRBIT is passed in Output mode alone (R184). -/
theorem State.pinWriteRejected_iff (s : State) : s.pinWriteRejected = true ↔ ¬ s.mode = .output := by
  cases h : s.mode <;> simp [State.pinWriteRejected, h]

/-- ALLHI and ALLLO are passed in Output mode, and in Input mode where they are not guarded (R184, D11). -/
theorem State.bulkWriteRejected_iff (s : State) :
    s.bulkWriteRejected = true ↔ ¬ (s.mode = .output ∨ s.cfg.allGuarded = false) := by
  cases h : s.mode <;> simp [State.bulkWriteRejected, h]

/-- Settles O36: each command's transactions are counted; a rejected one and a TICK in Output mode have none. -/
theorem portOperationCountsPerCommand : Obligations.PortOperationCountsPerCommand := by
  unfold Obligations.PortOperationCountsPerCommand
  intro i s t h n hn
  suffices hcounts : opCounts t.trace = opCounts s.trace + n from
    ⟨congrArg Prod.fst hcounts, congrArg (·.2.1) hcounts, congrArg (·.2.2) hcounts⟩
  cases i with
  | wrreg | setdir => cases h; subst hn; rw [State.respond_trace, State.opCounts_txw]
  | rdreg | rdin => cases h; subst hn; rw [State.respond_trace, State.opCounts_txr]
  | swout =>
    cases h; subst hn
    simp only [State.respond_trace, State.enterOutput_eq, State.opCounts_txw, add_assoc]
    rfl
  | swin =>
    cases h; subst hn
    simp only [State.respond_trace, State.enterInput_eq, State.zeroShadows_eq, State.opCounts_txw, add_assoc]
    rfl
  | wrbit =>
    cases h; subst hn
    simp only [State.pinWriteRejected_iff, ite_not]
    split_ifs
    · simp only [State.respond_trace, State.setSh_trace, State.opCounts_txw]
    · rfl
  | allhi | alllo =>
    cases h; subst hn
    simp only [State.bulkWriteRejected_iff, ite_not]
    split_ifs
    · simp only [State.respond_trace, State.setSh_trace, State.opCounts_txw, add_assoc]
      rfl
    · rfl
  | tick =>
    cases h; subst hn
    cases hm : s.mode with
    | input =>
      rw [if_neg (by decide), if_pos rfl]
      simp only [State.endTick_trace, State.showLevels_trace, State.keepSample_trace, State.opCounts_txr, add_assoc]
      rfl
    | output =>
      rw [if_pos rfl, if_neg (by decide), State.endTick_trace]
      rfl
  | _ => cases hn

end Sys2Proof.Machine
end

section
/-! PROOFS. The bit arithmetic of 41_gpio_register_ops.md (O24): each operation is given by what it does to every bit,
and its laws are read off bit by bit. -/

namespace Sys2Proof.Machine

/-- BitHigh is the bit of the byte (R155). -/
theorem bitHigh_eq_getLsbD (v : Byte) (b : Fin 8) : bitHigh v b = v.getLsbD b := by
  rw [bitHigh, BitVec.and_one_eq_setWidth_ofBool_getLsbD, BitVec.getLsbD_ushiftRight, Nat.add_zero]
  cases v.getLsbD b <;> rfl

/-- A byte is its eight bits. -/
theorem byte_eq_of_bitHigh {v w : Byte} (h : ∀ k, bitHigh v k = bitHigh w k) : v = w :=
  BitVec.eq_of_getLsbD_eq fun k hk => by
    simpa only [bitHigh_eq_getLsbD] using h ⟨k, hk⟩

theorem bitHigh_bitMask (b k : Fin 8) : bitHigh (bitMask b) k = decide (k = b) := by
  rw [bitHigh_eq_getLsbD, Bool.eq_iff_iff, getLsbD_bitMask, decide_eq_true_iff, eq_comm]

/-- SetBit sets bit `b` and leaves every other (R156). -/
theorem bitHigh_setBit (v : Byte) (b k : Fin 8) :
    bitHigh (setBit v b) k = if k = b then true else bitHigh v k := by
  have hor : bitHigh (setBit v b) k = (bitHigh v k || bitHigh (bitMask b) k) := by
    simp only [bitHigh_eq_getLsbD, setBit, BitVec.getLsbD_or]
  rw [hor, bitHigh_bitMask]
  split_ifs with hk <;> simp [hk]

/-- ClrBit clears bit `b` and leaves every other (R156). -/
theorem bitHigh_clrBit (v : Byte) (b k : Fin 8) :
    bitHigh (clrBit v b) k = if k = b then false else bitHigh v k := by
  have hand : bitHigh (clrBit v b) k = (bitHigh v k && !bitHigh (bitMask b) k) := by
    simp only [bitHigh_eq_getLsbD, clrBit, BitVec.getLsbD_and, BitVec.getLsbD_not, k.isLt, decide_true,
      Bool.true_and]
  rw [hand, bitHigh_bitMask]
  split_ifs with hk <;> simp [hk]

theorem setBit_setBit (v : Byte) (b : Fin 8) : setBit (setBit v b) b = setBit v b :=
  byte_eq_of_bitHigh fun k => by simp only [bitHigh_setBit]; split_ifs <;> rfl

theorem clrBit_clrBit (v : Byte) (b : Fin 8) : clrBit (clrBit v b) b = clrBit v b :=
  byte_eq_of_bitHigh fun k => by simp only [bitHigh_clrBit]; split_ifs <;> rfl

/-- Clearing forgets that the bit was set. -/
theorem clrBit_setBit (v : Byte) (b : Fin 8) : clrBit (setBit v b) b = clrBit v b :=
  byte_eq_of_bitHigh fun k => by simp only [bitHigh_clrBit, bitHigh_setBit]; split_ifs <;> rfl

/-- Clearing a bit is without effect exactly where it was 0. -/
theorem clrBit_eq_self_iff (v : Byte) (b : Fin 8) : clrBit v b = v ↔ bitHigh v b = false := by
  constructor
  · intro h
    rw [← h, bitHigh_clrBit, if_pos rfl]
  · intro h
    refine byte_eq_of_bitHigh fun k => ?_
    rw [bitHigh_clrBit]
    split_ifs with hk
    · rw [hk, h]
    · rfl

/-- Settles O24: the laws are those of the operations bit by bit. -/
theorem bitLawsOfTheShadow : Obligations.BitLawsOfTheShadow := by
  unfold Obligations.BitLawsOfTheShadow
  intro v b c
  refine ⟨bitHigh_eq_getLsbD v b, ?_, ?_, fun hc => ⟨?_, ?_⟩, setBit_setBit v b, clrBit_clrBit v b,
    clrBit_setBit v b, ?_⟩
  · rw [bitHigh_setBit, if_pos rfl]
  · rw [bitHigh_clrBit, if_pos rfl]
  · rw [bitHigh_setBit, if_neg hc]
  · rw [bitHigh_clrBit, if_neg hc]
  · rw [clrBit_setBit, clrBit_eq_self_iff]

end Sys2Proof.Machine
end

section
/-! PROOFS. SETDIR (O17) and RDIN (O20) of 41_gpio_register_ops.md: each is the raw access to one register of its
set. -/

namespace Sys2Proof.Machine

/-- SETDIR is the raw write of its byte to the set's direction register (R150). -/
theorem exec_setdir_eq_wrreg (r : RegSet) (ao : Bool) (s : State) :
    exec (.setdir r ao) s = exec (.wrreg (offDir r) (dirByte ao)) s := rfl

/-- RDIN is the raw read of the set's input-data register (R152). -/
theorem exec_rdin_eq_rdreg (r : RegSet) (s : State) : exec (.rdin r) s = exec (.rdreg (offIn r)) s := rfl

/-- Settles O17: what WRREG does to the direction register. -/
theorem setdirWritesTheWholeDirectionByte : Obligations.SetdirWritesTheWholeDirectionByte := by
  unfold Obligations.SetdirWritesTheWholeDirectionByte
  intro r ao s
  obtain ⟨-, e, n, hwrite⟩ := wrregPerformsOneWriteTransaction (offDir r) (dirByte ao) s
  refine ⟨e, n, ?_, ?_⟩
  · cases r <;> cases ao <;> rfl
  · rw [exec_setdir_eq_wrreg, ← offDir_eq]
    exact hwrite

/-- Settles O20: what RDREG does to the input-data register. -/
theorem rdinReadsTheInputByte : Obligations.RdinReadsTheInputByte := by
  unfold Obligations.RdinReadsTheInputByte
  intro r s
  simp only [exec_rdin_eq_rdreg, ← offIn_eq]
  obtain ⟨-, hread⟩ := rdregPerformsOneReadTransaction (offIn r) s
  refine ⟨?_, hread⟩
  cases r <;> rfl

end Sys2Proof.Machine
end

section
/-! PROOFS. The pin writes WRBIT, ALLHI and ALLLO (O18, O21, O22, O23) of 41_gpio_register_ops.md: each is one or two
writes of an output-data register, and the set's shadow takes the byte after its transaction (R158). -/

namespace Sys2Proof.Machine

/-! ### Registers and shadows of a set (R22, R62) -/

/-- The output-data register of a set, as R151 states it. -/
theorem offOut_eq (r : RegSet) : offOut r = if r = .set1 then 0x11 else 0x21 := by cases r <;> rfl

theorem State.sh_eq (s : State) (r : RegSet) : s.sh r = if r = .set1 then s.sh0 else s.sh1 := by cases r <;> rfl

/-- An assignment to a shadow touches that shadow alone. -/
theorem State.setSh_eq (s : State) (r : RegSet) (v : Byte) :
    s.setSh r v = { s with sh0 := if r = .set1 then v else s.sh0, sh1 := if r = .set1 then s.sh1 else v } := by
  cases r <;> rfl

/-! ### Several write transfers in a row (R66 (d)) -/

/-- The environment after the write transfers of a list, in order. -/
def Env.writeTransfers : List (Byte × Byte) → Env → Env
  | [], e => e
  | (off, val) :: ws, e => Env.writeTransfers ws (e.writeTransfer off val)

theorem Env.writeTransfers_effect (ws : List (Byte × Byte)) (e : Env) :
    WritesEffect ws e (Env.writeTransfers ws e) := by
  induction ws generalizing e with
  | nil => rfl
  | cons w ws ih => exact ⟨_, e.writeTransfer_effect w.1 w.2, ih _⟩

/-! ### One pin (R151) -/

/-- WRBIT in Output mode is not rejected (R184). -/
theorem exec_wrbit_of_output {s : State} (h : s.mode = .output) (p : LogicalPin) (high : Bool) :
    exec (.wrbit p high) s = .next
      (((s.txw (s.pinOffset p) (s.pinByte p high)).setSh (s.cfg.pinMap.get p).set (s.pinByte p high)).respond
        .ok 0x00) := by
  have hpassed : ¬ s.pinWriteRejected = true := by rwa [State.pinWriteRejected_iff, not_not]
  show execWrbit p high s = _
  rw [execWrbit, if_neg hpassed]

/-- Settles O18: the byte written is the set's shadow with the bit of the pin. -/
theorem wrbitInOutputModeWritesTheShadowByte : Obligations.WrbitInOutputModeWritesTheShadowByte := by
  unfold Obligations.WrbitInOutputModeWritesTheShadowByte
  intro p h s hmode
  refine ⟨s.env.writeTransfer (s.pinOffset p) (s.pinByte p h), ?_⟩
  intro pos old nv off
  have hold : s.sh pos.set = old := s.sh_eq pos.set
  have hnv : s.pinByte p h = nv := by rw [State.pinByte, hold]; rfl
  have hoff : s.pinOffset p = off := offOut_eq pos.set
  rw [exec_wrbit_of_output hmode, State.setSh_eq, hnv, hoff, State.txw_eq]
  exact ⟨s.env.writeTransfer_effect off nv, rfl⟩

/-! ### Both sets (R153, R154) -/

/-- Both output-data registers written, SET1 first, each shadow after its transaction, and the response. -/
def State.writeBothSets (s : State) (v0 v1 : Byte) : State :=
  ((((s.txw (offOut .set1) v0).setSh .set1 v0).txw (offOut .set2) v1).setSh .set2 v1).respond .ok 0x00

theorem State.writeBothSets_eq (s : State) (v0 v1 : Byte) :
    s.writeBothSets v0 v1 = { s with
      sh0 := v0, sh1 := v1
      trace := s.trace ++ writeEntries 0x11 v0 ++ writeEntries 0x21 v1
      tRd := false, tOff := 0x21, tVal := v1, wCnt := 0
      rspSt := .ok, rspD := 0x00, rspValid := true, responses := s.responses ++ [⟨.ok, 0x00⟩]
      busy := false, cs := 0, ph := .sClr, env := Env.writeTransfers [(0x11, v0), (0x21, v1)] s.env } := by
  simp only [State.writeBothSets, State.txw_eq, State.setSh_eq]
  rfl

section
variable {s : State} (h : s.mode = .output ∨ s.cfg.allGuarded = false)
include h

/-- ALLHI, where it is not rejected, writes ALL_HIGH_BYTE to both sets (R153). -/
theorem exec_allhi_of_passed : exec .allhi s = .next (s.writeBothSets s.cfg.allHigh0 s.cfg.allHigh1) := by
  have hpassed : ¬ s.bulkWriteRejected = true := by rwa [State.bulkWriteRejected_iff, not_not]
  show execAllhi s = _
  rw [execAllhi, if_neg hpassed]
  rfl

/-- ALLLO, where it is not rejected, writes 0x00 to both sets (R154). -/
theorem exec_alllo_of_passed : exec .alllo s = .next (s.writeBothSets 0x00 0x00) := by
  have hpassed : ¬ s.bulkWriteRejected = true := by rwa [State.bulkWriteRejected_iff, not_not]
  show execAlllo s = _
  rw [execAlllo, if_neg hpassed]
  rfl

/-- One ALLLO, where it is not rejected: both shadows, the two writes, and what decides whether the next is rejected. -/
theorem exec_alllo_outcome {t : State} (hexec : exec .alllo s = .next t) :
    t.sh0 = 0x00 ∧ t.sh1 = 0x00 ∧ t.trace = s.trace ++ (writeEntries 0x11 0x00 ++ writeEntries 0x21 0x00)
      ∧ t.mode = s.mode ∧ t.cfg = s.cfg := by
  rw [exec_alllo_of_passed h, State.writeBothSets_eq] at hexec
  cases hexec
  exact ⟨rfl, rfl, List.append_assoc _ _ _, rfl, rfl⟩

end

/-- Settles O21: the writes of ALL_HIGH_BYTE to both sets. -/
theorem allhiWritesBothHighBytes : Obligations.AllhiWritesBothHighBytes := by
  unfold Obligations.AllhiWritesBothHighBytes
  intro s h
  exact ⟨_, Env.writeTransfers_effect _ s.env, by rw [exec_allhi_of_passed h, State.writeBothSets_eq]⟩

/-- Settles O22: the writes of 0x00 to both sets. -/
theorem allloWritesBothBytesZero : Obligations.AllloWritesBothBytesZero := by
  unfold Obligations.AllloWritesBothBytesZero
  intro s h
  exact ⟨_, Env.writeTransfers_effect _ s.env, by rw [exec_alllo_of_passed h, State.writeBothSets_eq]⟩

/-- Settles O23: the first ALLLO leaves MODE and ALL_GUARDED as they were, so the second is not rejected either. -/
theorem allloTwiceRepeatsTheSameTwoWrites : Obligations.AllloTwiceRepeatsTheSameTwoWrites := by
  unfold Obligations.AllloTwiceRepeatsTheSameTwoWrites
  intro s t u h hst htu
  obtain ⟨ht0, ht1, httrace, htmode, htcfg⟩ := exec_alllo_outcome h hst
  obtain ⟨hu0, hu1, hutrace, -, -⟩ := exec_alllo_outcome (by rwa [htmode, htcfg]) htu
  exact ⟨ht0, ht1, hu0, hu1, httrace, hutrace⟩

end Sys2Proof.Machine
end

section
/-! PROOFS. The mode machine and the poll (O27 to O31) of 42_mode_and_poll.md: SWOUT and SWIN are writes of direction and
output-data registers around their internal assignments, and TICK is two reads of the input-data registers and the
display of what they returned. -/

namespace Sys2Proof.Machine

/-! ### The two transitions (R181, R182) -/

/-- Settles O27: the two direction writes, then MODE with the display, then the confirmation. -/
theorem swoutSwitchesToOutput : Obligations.SwoutSwitchesToOutput := by
  unfold Obligations.SwoutSwitchesToOutput
  intro s
  have hexec : exec .swout s = .next
      (((s.txw (offDir .set1) 0xFF).txw (offDir .set2) 0xFF).enterOutput.respond .ok 0x01) := rfl
  refine ⟨_, Env.writeTransfers_effect _ s.env, ?_⟩
  rw [hexec, State.txw_eq, State.txw_eq]
  rfl

/-- Settles O28: the four steps of the quirk sequence, then the response. -/
theorem swinRunsTheQuirkSequence : Obligations.SwinRunsTheQuirkSequence := by
  unfold Obligations.SwinRunsTheQuirkSequence
  intro s
  have hexec : exec .swin s = .next
      (((((((s.txw (offDir .set1) 0x00).txw (offDir .set2) 0x00).enterInput.txw (offDir .set1) 0xFF).txw
        (offDir .set2) 0xFF).zeroShadows.txw (offOut .set1) 0x00).txw (offOut .set2) 0x00).respond .ok 0x00) := rfl
  refine ⟨_, Env.writeTransfers_effect _ s.env, ?_⟩
  rw [hexec]
  simp only [State.txw_eq, State.enterInput_eq, State.zeroShadows_eq]
  rfl

/-! ### What the chip holds after writes in ENV_REF (R74, R183) -/

/-- The byte of a register after writes in their order: of the last one to it, or the byte before. -/
def lastSent (o : Byte) : List (Byte × Byte) → Byte → Byte
  | [], before => before
  | (off, val) :: ws, before => lastSent o ws (if o = off then val else before)

/-- In ENV_REF the register written takes the byte and every other is as it was. -/
theorem WriteEffect.reference {off val : Byte} {e e' : Env} (h : WriteEffect off val e e')
    (hkind : e.kind = .reference) :
    e'.kind = .reference ∧ ∀ o, e'.chipByte o = if o = off then val else e.chipByte o := by
  obtain ⟨hsame, -, -, -, -, -, -, -, -, hreference⟩ := h
  obtain ⟨-, -, hwritten, hothers⟩ := hreference hkind
  refine ⟨hsame.trans hkind, fun o => ?_⟩
  split
  next ho => exact ho ▸ hwritten
  next ho => exact hothers o ho

/-- In ENV_REF each register holds the last byte sent to it. -/
theorem WritesEffect.chipByte {ws : List (Byte × Byte)} {e e' : Env} (h : WritesEffect ws e e')
    (hkind : e.kind = .reference) (o : Byte) : e'.chipByte o = lastSent o ws (e.chipByte o) := by
  induction ws generalizing e with
  | nil => rw [show e' = e from h]; rfl
  | cons w ws ih =>
    obtain ⟨e1, hwrite, hrest⟩ := h
    obtain ⟨hkind1, hbytes⟩ := hwrite.reference hkind
    rw [ih hrest hkind1, hbytes]
    rfl

/-- Settles O29: of the six writes of SWIN the last one to each of the four registers decides. -/
theorem swinLeavesDirectionsAtOutput : Obligations.SwinLeavesDirectionsAtOutput := by
  unfold Obligations.SwinLeavesDirectionsAtOutput
  intro s t h
  obtain ⟨e, hwrites, hexec⟩ := swinRunsTheQuirkSequence s
  rw [hexec] at h
  cases h
  refine ⟨rfl, ?_, ?_, ?_, ?_, fun hkind => ?_⟩
  case refine_5 =>
    have hbyte := hwrites.chipByte hkind
    exact ⟨hbyte 0x10, hbyte 0x20, hbyte 0x11, hbyte 0x21⟩
  all_goals simp only [lastWritten_write]; rfl

/-! ### TICK (R185) -/

/-- The end of TICK, whole: the response is given where the word came from HOST, and the block is idle. -/
theorem State.endTick_eq_of_source (s : State) :
    s.endTick = { s with
      rspSt := if s.cSrc = .host then .ok else s.rspSt
      rspD := if s.cSrc = .host then 0x00 else s.rspD
      rspValid := if s.cSrc = .host then true else s.rspValid
      responses := if s.cSrc = .host then s.responses ++ [⟨.ok, 0x00⟩] else s.responses
      busy := false, cs := 0, ph := .sClr } := by
  have hsrc : s.cSrc = .host ∨ s.cSrc = .timer := by cases s.cSrc <;> simp
  rcases hsrc with h | h
  · simp only [State.endTick_of_host h, if_pos h]
    rfl
  · have hno : s.cSrc ≠ .host := by rw [h]; decide
    simp only [State.endTick_of_timer h, if_neg hno]
    rfl

theorem exec_tick_of_output {s : State} (h : s.mode = .output) : exec .tick s = .next s.endTick := by
  show execTick s = _
  rw [execTick, if_pos h]

theorem exec_tick_of_input {s : State} (h : s.mode = .input) :
    exec .tick s = .next
      ((((s.txr (offIn .set1)).keepSample .set1).txr (offIn .set2)).keepSample .set2).showLevels.endTick := by
  show execTick s = _
  rw [execTick, if_neg (by rw [h]; decide)]

theorem PerPin.get_map {α β : Type} (f : α → β) (x : PerPin α) (p : LogicalPin) : (x.map f).get p = f (x.get p) := by
  match p with
  | 0 | 1 | 2 | 3 | 4 | 5 | 6 | 7 => rfl

/-- A pin is shown by its bit of its set's byte (R155, R185). -/
theorem pinLevel_eq (b0 b1 : Byte) (pos : PinPos) :
    pinLevel b0 b1 pos = if (if pos.set = .set1 then b0 else b1).getLsbD pos.bit.val then .high else .low := by
  rw [pinLevel, bitHigh_eq_getLsbD, levelOf]
  cases pos.set <;> rfl

/-- Settles O30: the bytes are those the two reads returned. -/
theorem tickInInputModeShowsTheSampledLevels : Obligations.TickInInputModeShowsTheSampledLevels := by
  unfold Obligations.TickInInputModeShowsTheSampledLevels
  intro s hmode
  refine ⟨_, _, _, _, s.cfg.pinMap.map (pinLevel _ _), s.env.read_effect 0x12, Env.read_effect _ 0x22,
    fun p => (PerPin.get_map _ _ p).trans (pinLevel_eq _ _ _), ?_⟩
  rw [exec_tick_of_input hmode, State.endTick_eq_of_source, State.showLevels]
  simp only [State.txr_eq, State.keepSample]
  rfl

/-- Settles O31: TICK ends at its mode test. -/
theorem tickInOutputModeDoesNothing : Obligations.TickInOutputModeDoesNothing := by
  unfold Obligations.TickInOutputModeDoesNothing
  intro s hmode
  rw [exec_tick_of_output hmode, State.endTick_eq_of_source]

end Sys2Proof.Machine
end

section
/-! PROOFS. The writers of MODE among the clock steps (O33) of 42_mode_and_poll.md, in the way of those of SH and DISP. -/

namespace Sys2Proof

/-- The two commands that write MODE (R21, R180). -/
def Instr.writesMode : Instr → Bool
  | .swout | .swin => true
  | _ => false

theorem Instr.writesMode_iff (i : Instr) : i.writesMode = true ↔ i = .swout ∨ i = .swin := by
  cases i <;> simp [Instr.writesMode]

end Sys2Proof

namespace Sys2Proof.Machine

/-- An item that assigns MODE. -/
def Item.writesMode : Item → Bool
  | .enterInput | .enterOutput => true
  | _ => false

theorem State.startItem_mode {s t : State} {item : Item} (h : s.startItem item = .next t)
    (hitem : item.writesMode = false) : t.mode = s.mode := by
  cases item with
  | enterInput | enterOutput => cases hitem
  | guard rejected => cases h; cases rejected <;> rfl
  | modeTest skip => cases h; cases skip <;> simp
  | endTick => cases h; simp
  | keep r => cases h; simp
  | shadow r v => cases h; simp
  | _ => cases h; rfl

/-- The items that assign MODE stand in the commands that write it, and in each of these one does. -/
theorem program_any_writesMode (s : State) (i : Instr) : (program s i).any Item.writesMode = i.writesMode := by
  cases i <;> rfl

/-- A step without reset that changes MODE is one of a command that writes it. -/
theorem step_mode {s t : State} (h : step s = .next t) (hrst : s.cycle.rst = false) :
    t.mode = s.mode ∨ ∃ i, s.current = some i ∧ i.writesMode = true := by
  rcases step_registers h hrst with hsame | ⟨i, item, hcurrent, hitem, hstart⟩ | ⟨i, u, hcurrent, hsame, hexec⟩
  · exact .inl hsame.mode
  · cases hi : item.writesMode with
    | false => exact .inl ((State.startItem_mode hstart hi).trans s.clocked_mode)
    | true => exact .inr ⟨i, hcurrent, program_any_writesMode s.clocked i ▸ List.any_eq_true.mpr ⟨item, hitem, hi⟩⟩
  · cases hi : i.writesMode with
    | false =>
      have hother : i ≠ .swout ∧ i ≠ .swin := by
        rwa [← not_or, ← Instr.writesMode_iff, Bool.not_eq_true]
      exact .inl ((exec_mode hexec hother.1 hother.2).trans hsame.mode)
    | true =>
      rcases hcurrent with hcurrent | ⟨rfl, -⟩
      · exact .inr ⟨i, hcurrent, hi⟩
      · cases hi

/-- Settles O33: the transitions run all of their writes from any state, and no other command writes MODE. -/
theorem modeChangesOnlyThroughItsTwoTransitions : Obligations.ModeChangesOnlyThroughItsTwoTransitions := by
  unfold Obligations.ModeChangesOnlyThroughItsTwoTransitions
  refine ⟨rfl, fun s => ?_, fun s => ?_, fun s t h hchanged => ?_⟩
  · obtain ⟨e, -, hexec⟩ := swoutSwitchesToOutput s
    exact ⟨_, [.write 0x10 0xFF, .write 0x20 0xFF], hexec, rfl, rfl, by simp [Transaction.entries]⟩
  · obtain ⟨e, -, hexec⟩ := swinRunsTheQuirkSequence s
    exact ⟨_, [.write 0x10 0x00, .write 0x20 0x00, .write 0x10 0xFF, .write 0x20 0xFF, .write 0x11 0x00,
      .write 0x21 0x00], hexec, rfl, rfl, by simp [Transaction.entries]⟩
  · cases hrst : s.cycle.rst with
    | true => exact .inl rfl
    | false =>
      rcases step_mode h hrst with hmode | ⟨i, hcurrent, hi⟩
      · exact absurd hmode hchanged
      · rcases (Instr.writesMode_iff i).mp hi with rfl | rfl
        exacts [.inr (.inl hcurrent), .inr (.inr hcurrent)]

end Sys2Proof.Machine
end

section
/-! PROOFS. The blank display of Output mode (O52) of 42_mode_and_poll.md. Two things can break it: SWOUT, which blanks
the display as it sets MODE, and TICK, which in Output mode ends at its mode test. -/

namespace Sys2Proof.Machine

/-- In Output mode the display is blank (R188). -/
def State.BlankInOutput (s : State) : Prop := s.mode = .output → s.disp = PerPin.all .blank

section
variable {s t : State}

theorem State.BlankInOutput.of_input (h : s.mode = .input) : s.BlankInOutput := fun hout => by
  rw [h] at hout; cases hout

theorem State.BlankInOutput.of_eq (h : s.BlankInOutput) (hmode : t.mode = s.mode) (hdisp : t.disp = s.disp) :
    t.BlankInOutput := fun hout => hdisp.trans (h (hmode.symm.trans hout))

theorem DisplayInv.blank (h : DisplayInv s) : s.BlankInOutput := h.1

/-- A TICK in progress in Output mode stands at its mode test. -/
theorem DisplayInv.at_mode_test (h : DisplayInv s) (hbusy : s.busy = true) (hmode : s.mode = .output)
    (hd : decodeCmd s.latched = .ok .tick) : s.cs = 0 ∧ s.ph = .sClr := h.2 hbusy hmode hd

theorem DisplayInv.of_idle (h : s.BlankInOutput) (hidle : s.busy = false) : DisplayInv s :=
  ⟨h, fun hbusy => by rw [hidle] at hbusy; cases hbusy⟩

theorem DisplayInv.of_first_item (h : s.BlankInOutput) (hcs : s.cs = 0) (hph : s.ph = .sClr) : DisplayInv s :=
  ⟨h, fun _ _ _ => ⟨hcs, hph⟩⟩

/-! ### Whole commands -/

/-- A whole command leaves the display blank where it leaves MODE at Output. -/
theorem exec_blankInOutput {i : Instr} (h : exec i s = .next t) (hs : s.BlankInOutput) : t.BlankInOutput := by
  by_cases hout : i = .swout
  · subst hout; cases h; exact fun _ => rfl
  by_cases hin : i = .swin
  · subst hin; cases h; exact .of_input (by simp)
  have hmode := exec_mode h hout hin
  by_cases htick : i = .tick
  · subst htick
    cases hm : s.mode with
    | input => exact .of_input (hmode.trans hm)
    | output =>
      rw [exec_tick_of_output hm] at h
      cases h
      exact hs.of_eq hmode s.endTick_disp
  · refine hs.of_eq hmode (exec_disp h ?_)
    rw [Bool.eq_false_iff, Ne, Instr.writesDisplay_iff]
    exact not_or.mpr ⟨htick, hout⟩

/-- A command just started keeps the invariant in either grain: all of it ran, or it stands at its first item. -/
theorem DisplayInv.of_started {w : CmdWord} {i : Instr} {src : Source} (hs : s.BlankInOutput)
    (hi : i.hostIssuable = true)
    (h : (s.grain = .big ∧ exec i (s.accept src w) = .next t) ∨ (s.grain = .small ∧ t = s.accept src w)) :
    DisplayInv t := by
  have haccepted : (s.accept src w).BlankInOutput := hs.of_eq rfl rfl
  rcases h with ⟨-, hexec⟩ | ⟨-, rfl⟩
  · exact .of_idle (exec_blankInOutput hexec haccepted) (exec_idle hi hexec).1
  · exact .of_first_item haccepted rfl rfl

/-! ### Small steps -/

/-- Only TICK shows levels (R185). -/
theorem program_showLevels {i : Instr} (h : .showLevels ∈ program s i) : i = .tick := by
  cases i with
  | tick => rfl
  | _ => simp [program] at h

/-- No item breaks the blank display, but for one that shows levels in Output mode. -/
theorem State.startItem_blankInOutput {item : Item} (h : s.startItem item = .next t) (hs : s.BlankInOutput)
    (hlevels : item = .showLevels → s.mode = .input) : t.BlankInOutput := by
  cases item with
  | enterOutput => cases h; exact fun _ => rfl
  | enterInput => cases h; exact .of_input rfl
  | showLevels => cases h; exact .of_input (hlevels rfl)
  | _ => exact hs.of_eq (State.startItem_mode h rfl) (State.startItem_disp h rfl)

/-- The first step of an item of the latched command keeps the invariant. -/
theorem State.startItem_displayInv {i : Instr} {item : Item} (h : s.startItem item = .next t) (hs : DisplayInv s)
    (hbusy : s.busy = true) (hd : decodeCmd s.latched = .ok i) (hitem : (program s i)[s.cs.toNat]? = some item) :
    DisplayInv t := by
  have hmem := List.mem_of_getElem? hitem
  by_cases htick : i = .tick
  · subst htick
    cases hmode : s.mode with
    | output =>
      have htest : (program s .tick)[s.cs.toNat]? = some (.modeTest true) := by
        rw [(hs.at_mode_test hbusy hmode hd).1, program, hmode]; rfl
      obtain rfl := Option.some.inj (htest.symm.trans hitem)
      cases h
      exact .of_idle (hs.blank.of_eq s.endTick_mode s.endTick_disp) s.endTick_busy
    | input =>
      have hkept : item.writesMode = false := by
        have hany : (program s .tick).any Item.writesMode = false := program_any_writesMode s .tick
        simpa using List.any_eq_false.mp hany item hmem
      have hinput := (State.startItem_mode h hkept).trans hmode
      exact ⟨State.BlankInOutput.of_input hinput, fun _ hout => by rw [hinput] at hout; cases hout⟩
  · refine ⟨State.startItem_blankInOutput h hs.blank ?_, fun _ _ hdt => ?_⟩
    · rintro rfl
      exact absurd (program_showLevels hmem) htick
    · rw [(State.startItem_sameAround h).latched, hd] at hdt
      exact absurd (Except.ok.inj hdt) htick

/-- Inside a transaction no TICK of Output mode is in progress, and none begins. -/
theorem DisplayInv.inside_transaction (h : DisplayInv s) (hbusy : s.busy = true) (hp : s.ph ≠ .sClr)
    (hsame : s.SameRegisters t) (hlatched : t.latched = s.latched) : DisplayInv t :=
  ⟨h.blank.of_eq hsame.mode hsame.disp, fun _ hout hd =>
    absurd (h.at_mode_test hbusy (hsame.mode.symm.trans hout) (hlatched ▸ hd)).2 hp⟩

theorem State.microStep_displayInv {tu : Bool} (h : s.microStep tu = .next t) (hs : DisplayInv s)
    (hbusy : s.busy = true) : DisplayInv t := by
  have hlatched := (State.microStep_sameAround h).latched
  rcases State.microStep_cases h with ⟨-, -, -, rfl⟩ | ⟨-, i, item, hd, hitem, hstart⟩ | ⟨hp, rfl⟩ | ⟨hp, -, rfl⟩
    | ⟨hp, -, rfl⟩ | ⟨hp, rfl⟩ | ⟨hp, rfl⟩ | ⟨hp, rfl⟩ | ⟨hp, rfl⟩
  case inl => exact .of_idle hs.blank rfl
  case inr.inl => exact State.startItem_displayInv hstart hs hbusy hd hitem
  all_goals refine hs.inside_transaction hbusy (by rw [hp]; decide) ?_ hlatched
  case inr.inr.inr.inr.inr.inr.inr.inl => rw [State.waitStep_eq]; exact ⟨rfl, fun _ => rfl, rfl, rfl⟩
  all_goals exact ⟨rfl, fun _ => rfl, rfl, rfl⟩

/-! ### Clock steps -/

/-- Levels and timer touch nothing of the invariant. -/
theorem State.clocked_displayInv (h : DisplayInv s) : DisplayInv s.clocked := by
  rw [State.clocked_eq]
  exact h

end

/-- Settles O52: reset enters Input mode, and small steps and whole commands each keep the display blank. -/
theorem displayStaysBlankInOutputMode : Obligations.DisplayStaysBlankInOutputMode := by
  unfold Obligations.DisplayStaysBlankInOutputMode
  intro s t hs h
  have hclocked : DisplayInv s.clocked := State.clocked_displayInv hs
  obtain ⟨-, hclock⟩ := step_clockStep h
  cases hclock with
  | reset _ ht => rw [ht]; exact .of_idle (.of_input rfl) rfl
  | inert _ _ ht | idle _ _ _ _ ht => exact ht ▸ hclocked
  | busy _ _ hbusy hmicro => exact State.microStep_displayInv hmicro hclocked ((State.clocked_busy s).trans hbusy)
  | tick _ _ _ _ _ htick => exact .of_started hclocked.blank rfl (State.takeTick_cases htick)
  | word w rest _ _ _ _ _ hword =>
    have hwaiting : State.BlankInOutput { s.clocked with cmds := rest } := hclocked.blank
    rcases State.takeCommand_started hword with ⟨-, -, rfl⟩ | ⟨i, hd, hstarted⟩
    · exact .of_idle hwaiting rfl
    · exact .of_started hwaiting (hostIssuable_of_decodeCmd hd) hstarted

end Sys2Proof.Machine
end

section
/-! PROOFS. The exceptions of 60_exceptions.md: InvalidOperation (O19), a load that failed (O40), and another agent on
the five ports (O44). -/

namespace Sys2Proof.Machine

/-! ### InvalidOperation (R184, R211) -/

/-- WRBIT in Input mode is rejected before its transaction. -/
theorem exec_wrbit_of_input {s : State} (h : s.mode = .input) (p : LogicalPin) (high : Bool) :
    exec (.wrbit p high) s = .next (s.respond .invalidOp 0x00) := by
  have hrejected : s.pinWriteRejected = true := by rw [State.pinWriteRejected_iff, h]; decide
  show execWrbit p high s = _
  rw [execWrbit, if_pos hrejected, State.raise_eq]

section
variable {s : State} (h : s.bulkWriteRejected = true)
include h

/-- A rejected ALLHI ends before its two transactions. -/
theorem exec_allhi_of_rejected : exec .allhi s = .next (s.respond .invalidOp 0x00) := by
  show execAllhi s = _
  rw [execAllhi, if_pos h, State.raise_eq]

/-- A rejected ALLLO ends before its two transactions. -/
theorem exec_alllo_of_rejected : exec .alllo s = .next (s.respond .invalidOp 0x00) := by
  show execAlllo s = _
  rw [execAlllo, if_pos h, State.raise_eq]

end

/-- Settles O19: each of the three is rejected at its mode test, and a rejection is a response and no more. -/
theorem pinWritesAreRejectedInInputMode : Obligations.PinWritesAreRejectedInInputMode := by
  unfold Obligations.PinWritesAreRejectedInInputMode
  intro s i hmode hi
  suffices hexec : exec i s = .next (s.respond .invalidOp 0x00) from hexec
  rcases hi with ⟨p, high, rfl⟩ | ⟨hguarded, hi⟩
  · exact exec_wrbit_of_input hmode p high
  · have hrejected : s.bulkWriteRejected = true := by simp [State.bulkWriteRejected_iff, hmode, hguarded]
    rcases hi with rfl | rfl
    · exact exec_allhi_of_rejected hrejected
    · exact exec_alllo_of_rejected hrejected

/-! ### A load that failed (R212, R253, D23) -/

/-- The first report is recorded, and it alone decides EN (R253). -/
theorem State.loaderReports_of_first {s : State} (h : s.load = none) (st : LoadStatus) :
    s.loaderReports (some st) = { s with load := some st, en := st == .ok && !s.released } := by
  simp only [State.loaderReports, h]

/-- A later report is not looked at (log entry 20). -/
theorem State.loaderReports_of_reported {s : State} {st : LoadStatus} (h : s.load = some st)
    (report : Option LoadStatus) : s.loaderReports report = s := by
  simp only [State.loaderReports, h]

/-- EN in a clock step is as LOADER leaves it, unless the bus is released (R253, R254). -/
theorem State.levels_en (s : State) (c : Cycle) :
    (s.levels c).en = ((s.loaderReports c.load).en && !c.release) := by
  cases h : c.release <;> simp [State.levels, State.releaseBus, h]

/-- LOADER's record is LOADER's alone to write. -/
theorem State.levels_load (s : State) (c : Cycle) : (s.levels c).load = (s.loaderReports c.load).load := by
  cases h : c.release <;> simp [State.levels, State.releaseBus, h]

/-- A first report other than Ok leaves EN low (R212). -/
theorem State.levels_of_failed_report {s : State} {c : Cycle} {st : LoadStatus} (hload : s.load = none)
    (hreport : c.load = some st) (hfailed : st ≠ .ok) :
    (s.levels c).en = false ∧ (s.levels c).load = some st := by
  rw [State.levels_en, State.levels_load, hreport, State.loaderReports_of_first hload]
  simp [hfailed]

/-- Once LOADER has reported, EN stays low if it is low, whatever is reported then (D23, log entry 20). -/
theorem State.levels_of_reported {s : State} {st : LoadStatus} (hload : s.load = some st) (hen : s.en = false)
    (c : Cycle) : (s.levels c).en = false ∧ (s.levels c).load = some st := by
  rw [State.levels_en, State.levels_load, State.loaderReports_of_reported hload]
  simp [hen, hload]

/-- A step that leaves EN low performs no port operation and answers nothing (R36, R212). -/
theorem step_silent_of_disabled {s t : State} (h : step s = .next t) (hen : t.en = false)
    (hrst : s.cycle.rst = false) : t.trace = s.trace ∧ t.responses = s.responses := by
  have hdisabled : s.clocked.en = false := (step_sameLevels h hrst).en.symm.trans hen
  rw [step_of_disabled (step_clockStep h).1 hrst hdisabled] at h
  cases h
  exact ⟨s.clocked_trace, s.clocked_responses⟩

/-- Settles O40: the input levels leave EN low, the failed report first and any other after it, and without EN the block
does nothing. -/
theorem failedLoadKeepsTheBlockDisabled : Obligations.FailedLoadKeepsTheBlockDisabled := by
  unfold Obligations.FailedLoadKeepsTheBlockDisabled
  intro s t st h hfailed
  obtain ⟨hen, -, hload, -⟩ := step_levels h
  obtain ⟨hlow, hrecord⟩ :
      (s.beginCycle.levels s.cycle).en = false ∧ (s.beginCycle.levels s.cycle).load = some st := by
    rcases hfailed with ⟨hnone, hreport, hne⟩ | ⟨hreported, hdisabled⟩
    · exact State.levels_of_failed_report (s := s.beginCycle) hnone hreport hne
    · exact State.levels_of_reported (s := s.beginCycle) hreported hdisabled s.cycle
  have ht : t.en = false := hen.trans hlow
  exact ⟨ht, hload.trans hrecord, step_silent_of_disabled h ht⟩

/-! ### Another agent on the five ports (R224, U5) -/

/-- Settles O44: the step looks for another agent before anything else. -/
theorem foreignAccessIsRefused : Obligations.ForeignAccessIsRefused := by
  unfold Obligations.ForeignAccessIsRefused
  intro s hforeign
  rw [step, State.clock, if_pos hforeign]

end Sys2Proof.Machine
end

section
/-! PROOFS. The bound on a command's length (O60) of 70_reset_and_hazards.md. What a busy block has left to do is a
number of clock steps, read off UPC, W_CNT and the micro-program; each clock step with a pulse makes it smaller. -/

namespace Sys2Proof.Machine

/-! ### How long a micro-program takes with a pulse in each clock step (R24, R121, R122, D15) -/

/-- The clock steps of an item: the phases of its transaction, in S_WAIT one for each pulse; one for any other item. -/
def Item.steps : Item → Nat
  | .write _ _ => 7
  | .read _ => 8
  | _ => 1

theorem Item.steps_pos (item : Item) : 0 < item.steps := by
  cases item <;> exact Nat.succ_pos _

/-- The clock steps of a command from item `k` to its end. -/
def stepsFrom (i : Instr) (k : Nat) : Nat := (((program State.reset i).map Item.steps).drop k).sum

/-- The bytes in a micro-program do not count for its length. -/
theorem program_steps (s t : State) (i : Instr) : (program t i).map Item.steps = (program s i).map Item.steps := by
  cases i <;> rfl

theorem stepsFrom_of_item {s : State} {i : Instr} {k : Nat} {item : Item} (h : (program s i)[k]? = some item) :
    stepsFrom i k = item.steps + stepsFrom i (k + 1) := by
  have hk : ((program State.reset i).map Item.steps)[k]? = some item.steps := by
    rw [program_steps s, List.getElem?_map, h, Option.map_some]
  obtain ⟨hlt, hget⟩ := List.getElem?_eq_some_iff.mp hk
  rw [stepsFrom, List.drop_eq_getElem_cons hlt, hget, List.sum_cons, stepsFrom]

/-- No command is longer than SWIN. -/
theorem stepsFrom_zero_le (i : Instr) : stepsFrom i 0 ≤ 45 := by
  cases i <;> simp [stepsFrom, program, Item.steps]

/-- CS does not wrap at an item of a micro-program (R24). -/
theorem toNat_cs_succ {s : State} {i : Instr} {k : BitVec 4} {item : Item}
    (h : (program s i)[k.toNat]? = some item) : (k + 1).toNat = k.toNat + 1 := by
  obtain ⟨hk, -⟩ := List.getElem?_eq_some_iff.mp h
  have hlen := program_length_le s i
  rw [BitVec.toNat_add]
  exact Nat.mod_eq_of_lt (by change k.toNat + 1 < 16; omega)

/-! ### What is left of a command in progress -/

/-- The pulses that end the wait: W_CNT counts up to its units, and one more pulse follows (R124, D15). -/
def State.pulsesLeft (s : State) : Nat := (BitVec.ofNat 2 (waitUnits s.tRd) - s.wCnt).toNat + 1

theorem State.pulsesLeft_of_cleared {s : State} (h : s.wCnt = 0) : s.pulsesLeft = 2 + s.tRd.toNat := by
  rw [State.pulsesLeft, h]
  cases s.tRd <;> rfl

/-- The clock steps left of a transaction from a phase of it, with the pulses that its wait still takes in S_WAIT. A
read waits one pulse longer than a write and samples after that, but has no S_DAT. -/
def Phase.stepsLeft (pulses : Nat) (rd : Bool) : Phase → Nat
  | .sClr => rd.toNat + 7
  | .sCmd => rd.toNat + 6
  | .sSlv => rd.toNat + 5
  | .sDat => 2 * rd.toNat + 4
  | .sGo => 2 * rd.toNat + 3
  | .sWait => pulses + rd.toNat
  | .sSmp => 1

/-- The clock steps left of the transaction in progress. -/
def State.phaseLeft (s : State) : Nat := s.ph.stepsLeft s.pulsesLeft s.tRd

/-- The clock steps left of the command `i` in progress. -/
def State.stepsLeft (s : State) (i : Instr) : Nat :=
  if s.busy then
    if s.ph = .sClr then stepsFrom i s.cs.toNat else s.phaseLeft + stepsFrom i (s.cs.toNat + 1)
  else 0

section
variable {s t : State} {i : Instr} {item : Item}

theorem State.phaseLeft_pos (s : State) : 0 < s.phaseLeft := by
  have hpulse : 0 < s.pulsesLeft := Nat.succ_pos _
  rw [State.phaseLeft]
  cases s.ph with
  | sWait => exact Nat.add_pos_left hpulse _
  | _ => exact Nat.succ_pos _

/-- Two phases of one transaction are compared in the table. -/
theorem State.phaseLeft_lt {p q : Phase} (hp : s.ph = p) (hq : t.ph = q) (hrd : t.tRd = s.tRd)
    (h : q.stepsLeft t.pulsesLeft s.tRd < p.stepsLeft s.pulsesLeft s.tRd) : t.phaseLeft < s.phaseLeft := by
  rw [State.phaseLeft, State.phaseLeft, hp, hq, hrd]
  exact h

theorem State.stepsLeft_of_idle (hbusy : s.busy = false) : s.stepsLeft i = 0 := by
  rw [State.stepsLeft, if_neg (by rw [hbusy]; decide)]

theorem State.stepsLeft_of_item (hbusy : s.busy = true) (hp : s.ph = .sClr) :
    s.stepsLeft i = stepsFrom i s.cs.toNat := by
  rw [State.stepsLeft, if_pos hbusy, if_pos hp]

theorem State.stepsLeft_of_phase (hbusy : s.busy = true) (hp : s.ph ≠ .sClr) :
    s.stepsLeft i = s.phaseLeft + stepsFrom i (s.cs.toNat + 1) := by
  rw [State.stepsLeft, if_pos hbusy, if_neg hp]

/-- Levels and timer do not touch what is left of a command. -/
theorem State.stepsLeft_clocked (s : State) (i : Instr) : s.clocked.stepsLeft i = s.stepsLeft i := by
  rw [State.clocked_eq]
  rfl

/-! ### Each small step with a pulse makes it smaller (R271) -/

/-- A transaction that has begun has less left than its item has. -/
theorem State.startItem_phaseLeft {rd : Bool} (h : s.startItem item = .next t) (hrd : item.isTransaction rd = true) :
    t.ph ≠ .sClr ∧ t.phaseLeft < item.steps := by
  cases item with
  | write off val => cases h; exact ⟨nofun, Nat.lt_succ_self 6⟩
  | read off => cases h; exact ⟨nofun, Nat.lt_succ_self 7⟩
  | _ => cases hrd

/-- The first step of an item ends the command, begins the item's transaction, or ends the item. -/
theorem State.startItem_stepsLeft (hbusy : s.busy = true) (hp : s.ph = .sClr)
    (hitem : (program s i)[s.cs.toNat]? = some item) (h : s.startItem item = .next t) :
    t.stepsLeft i < s.stepsLeft i := by
  rw [State.stepsLeft_of_item hbusy hp, stepsFrom_of_item hitem]
  have hpos := item.steps_pos
  rcases State.startItem_upc h hbusy with ⟨hb, -, -⟩ | ⟨hb, hcs, hrd⟩ | ⟨hb, hcs, hp', -⟩
  · rw [State.stepsLeft_of_idle hb]; omega
  · obtain ⟨hp', hlt⟩ := State.startItem_phaseLeft h hrd
    rw [State.stepsLeft_of_phase hb hp', hcs]; omega
  · rw [State.stepsLeft_of_item hb hp', hcs, toNat_cs_succ hitem]; omega

/-- A step inside a transaction goes on to a phase with less left, or ends the item. -/
theorem State.stepsLeft_lt_of_phase (hbusy : s.busy = true) (hp : s.ph ≠ .sClr)
    (hitem : (program s i)[s.cs.toNat]? = some item) (hb : t.busy = s.busy)
    (h : (t.cs = s.cs ∧ t.ph ≠ .sClr ∧ t.phaseLeft < s.phaseLeft) ∨ (t.cs = s.cs + 1 ∧ t.ph = .sClr)) :
    t.stepsLeft i < s.stepsLeft i := by
  rw [State.stepsLeft_of_phase hbusy hp]
  rcases h with ⟨hcs, hp', hlt⟩ | ⟨hcs, hp'⟩
  · rw [State.stepsLeft_of_phase (hb.trans hbusy) hp', hcs]
    exact Nat.add_lt_add_right hlt _
  · rw [State.stepsLeft_of_item (hb.trans hbusy) hp', hcs, toNat_cs_succ hitem]
    exact Nat.lt_add_of_pos_left s.phaseLeft_pos

/-- A pulse in the wait leaves one pulse less to come, or ends it: a read goes on to its sample, a write ends its
item. -/
theorem State.waitStep_phaseLeft (hp : s.ph = .sWait) :
    ((s.waitStep true).cs = s.cs ∧ (s.waitStep true).ph ≠ .sClr ∧ (s.waitStep true).phaseLeft < s.phaseLeft)
      ∨ ((s.waitStep true).cs = s.cs + 1 ∧ (s.waitStep true).ph = .sClr) := by
  have hcount : ∀ n units : BitVec 2, n ≠ units → (units - (n + 1)).toNat < (units - n).toNat := by decide
  rw [State.waitStep_pulse]
  split
  next =>
    rcases Bool.eq_false_or_eq_true s.tRd with hr | hr
    · rw [State.endWait_withPulses_of_read hr]
      exact .inl ⟨rfl, nofun, State.phaseLeft_lt hp rfl rfl (by rw [hr]; exact Nat.succ_lt_succ (Nat.succ_pos _))⟩
    · rw [State.endWait_withPulses_of_write hr]
      exact .inr ⟨rfl, rfl⟩
  next hn =>
    have hlt : (s.withPulses (s.wCnt + 1)).pulsesLeft < s.pulsesLeft := Nat.succ_lt_succ (hcount _ _ hn)
    exact .inl ⟨rfl, hp.trans_ne nofun, State.phaseLeft_lt hp hp rfl (Nat.add_lt_add_right hlt _)⟩

/-- What is left of a busy block's command gets smaller with each pulse. -/
theorem State.microStep_stepsLeft (h : UpcInv s) (hbusy : s.busy = true) (hd : decodeCmd s.latched = .ok i)
    (hstep : s.microStep true = .next t) : t.stepsLeft i < s.stepsLeft i := by
  obtain ⟨j, item, hd', hitem, -⟩ := h.2 hbusy
  obtain rfl : i = j := Except.ok.inj (hd.symm.trans hd')
  rcases State.microStep_cases hstep with ⟨-, e, he, -⟩ | ⟨hp, j, item', hd', hitem', hstart⟩
    | ⟨hp, rfl⟩ | ⟨hp, hr, rfl⟩ | ⟨hp, hr, rfl⟩ | ⟨hp, rfl⟩ | ⟨hp, rfl⟩ | ⟨hp, rfl⟩ | ⟨hp, rfl⟩
  case inl => rw [hd] at he; cases he
  case inr.inl =>
    obtain rfl : i = j := Except.ok.inj (hd.symm.trans hd')
    exact State.startItem_stepsLeft hbusy hp hitem' hstart
  all_goals have inside {u : State} := State.stepsLeft_lt_of_phase (t := u) hbusy (by rw [hp]; decide) hitem
  · exact inside rfl (.inl ⟨rfl, nofun, State.phaseLeft_lt hp rfl rfl (Nat.lt_succ_self _)⟩)
  · -- A read goes from S_SLV to S_GO, a write to S_DAT.
    exact inside rfl (.inl ⟨rfl, nofun, State.phaseLeft_lt hp rfl rfl (by rw [hr]; exact Nat.lt_succ_self 5)⟩)
  · exact inside rfl (.inl ⟨rfl, nofun, State.phaseLeft_lt hp rfl rfl (by rw [hr]; exact Nat.lt_succ_self 4)⟩)
  · exact inside rfl (.inl ⟨rfl, nofun, State.phaseLeft_lt hp rfl rfl (Nat.lt_succ_self _)⟩)
  · -- GO clears W_CNT, so that the whole wait is left.
    refine inside rfl (.inl ⟨rfl, nofun, State.phaseLeft_lt hp rfl rfl ?_⟩)
    rw [State.pulsesLeft_of_cleared rfl]
    show 2 + s.tRd.toNat + s.tRd.toNat < 2 * s.tRd.toNat + 3
    omega
  · exact inside (by rw [State.waitStep_eq]) (State.waitStep_phaseLeft hp)
  · exact inside rfl (.inr ⟨rfl, rfl⟩)

end

/-! ### The run -/

/-- The command `i` in progress, or over, in an enabled block whose coming clock steps are undisturbed and each have a
pulse. -/
structure State.Pulsed (s : State) (i : Instr) : Prop where
  underway : s.Underway
  upc : UpcInv s
  latched : decodeCmd s.latched = .ok i
  pulses : ∀ c ∈ s.inputs, c.tu = true

section
variable {s : State} {i : Instr}

theorem State.accepted.upcInv (h : s.accepted i) : UpcInv s := by
  obtain ⟨-, -, hbusy, hcs, hph, -, hd⟩ := h
  obtain ⟨item, hitem⟩ := program_first (hostIssuable_of_decodeCmd hd) s
  exact .of_busy hbusy hd (by rw [hcs]; exact hitem) fun hp => absurd hph hp

theorem State.accepted.pulsed (h : s.accepted i) (hinputs : ∀ c ∈ s.inputs, c.undisturbed = true ∧ c.tu = true) :
    s.Pulsed i := by
  have hupc := h.upcInv
  obtain ⟨hen, -, -, -, -, hrsp, hd⟩ := h
  exact ⟨⟨hen, fun _ => hrsp, fun c hc => (hinputs c hc).1⟩, hupc, hd, fun c hc => (hinputs c hc).2⟩

/-- An undisturbed clock step of a command under way is one small step. -/
theorem State.Underway.step_eq (h : s.Underway) (hbusy : s.busy = true) :
    step s = s.clocked.microStep s.cycle.tu := by
  have hc := h.cycle_undisturbed
  have hen : s.clocked.en = true := by
    rw [State.clocked_eq, (State.levels_undisturbed hc s.beginCycle).1]; exact h.en
  simp only [Cycle.undisturbed, Bool.and_eq_true, Bool.not_eq_true'] at hc
  obtain ⟨⟨⟨hrst, hforeign⟩, -⟩, -⟩ := hc
  exact step_of_busy hforeign hrst hen hbusy

/-- A clock step with a pulse leaves less of the command, and uses up one of the inputs. -/
theorem State.Pulsed.step_progress (h : s.Pulsed i) (hbusy : s.busy = true) (htu : s.cycle.tu = true) :
    ∃ t, step s = .next t ∧ t.Pulsed i ∧ t.inputs = s.inputs.tail ∧ t.stepsLeft i < s.stepsLeft i := by
  have hbusy' : s.clocked.busy = true := (State.clocked_busy s).trans hbusy
  have hupc := State.clocked_upcInv h.upc
  have hlatched : decodeCmd s.clocked.latched = .ok i := by rw [State.clocked_latched]; exact h.latched
  obtain ⟨t, hmicro⟩ := State.microStep_answers hupc hbusy' true
  have hstep : step s = .next t := by rw [h.underway.step_eq hbusy, htu, hmicro]
  have hinputs : t.inputs = s.inputs.tail := by
    rw [(State.microStep_sameOutside hmicro).inputs, State.clocked_inputs]
  refine ⟨t, hstep, ⟨(h.underway.step_untimed hbusy hstep).1, step_upcInv h.upc hstep, ?_, fun c hc => ?_⟩, hinputs, ?_⟩
  · rw [(State.microStep_sameAround hmicro).latched]; exact hlatched
  · exact h.pulses c (List.mem_of_mem_tail (hinputs ▸ hc))
  · rw [← State.stepsLeft_clocked s]
    exact State.microStep_stepsLeft hupc hbusy' hlatched hmicro

theorem State.Pulsed.stepsLeft_pos (h : s.Pulsed i) (hbusy : s.busy = true) : 0 < s.stepsLeft i := by
  obtain ⟨t, hmicro⟩ := State.microStep_answers h.upc hbusy true
  exact Nat.zero_lt_of_lt (State.microStep_stepsLeft h.upc hbusy h.latched hmicro)

/-- With at least as many pulses to come as clock steps are left, the command ends within them. -/
theorem State.Pulsed.run_idle {n : Nat} (h : s.Pulsed i) (hleft : s.stepsLeft i ≤ n) (hlen : n ≤ s.inputs.length) :
    ∃ (k : Nat) (t : State), k ≤ n ∧ Host.Core.run Sys2Proof.core k s = .next t ∧ t.busy = false := by
  induction n generalizing s with
  | zero =>
    have hidle : s.busy ≠ true := fun hbusy => absurd hleft (Nat.not_le.mpr (h.stepsLeft_pos hbusy))
    exact ⟨0, s, Nat.le_refl 0, rfl, Bool.eq_false_iff.mpr hidle⟩
  | succ n ih =>
    cases hbusy : s.busy with
    | false => exact ⟨0, s, Nat.zero_le _, rfl, hbusy⟩
    | true =>
      obtain ⟨c, cs, hinputs⟩ : ∃ c cs, s.inputs = c :: cs := List.exists_cons_of_length_pos (by omega)
      have htu : s.cycle.tu = true := by
        rw [State.cycle, hinputs]
        exact h.pulses c (hinputs ▸ List.mem_cons_self)
      obtain ⟨s', hstep, h', hinputs', hlt⟩ := h.step_progress hbusy htu
      obtain ⟨k, t, hk, hrun, hidle⟩ := ih h' (by omega) (by rw [hinputs', List.length_tail]; omega)
      exact ⟨k + 1, t, Nat.succ_le_succ hk, run_succ_iff.mpr ⟨s', hstep, hrun⟩, hidle⟩

end

/-- Settles O60: an accepted command has at most the steps of SWIN left, and each pulse makes them fewer. -/
theorem acceptedCommandEndsWithin45Pulses : Obligations.AcceptedCommandEndsWithin45Pulses := by
  unfold Obligations.AcceptedCommandEndsWithin45Pulses
  intro i s h hlen hinputs
  have hleft : s.stepsLeft i ≤ 45 := by
    obtain ⟨-, -, hbusy, hcs, hph, -, -⟩ := h
    rw [State.stepsLeft_of_item hbusy hph, hcs]
    exact stepsFrom_zero_le i
  exact (h.pulsed hinputs).run_idle hleft hlen

end Sys2Proof.Machine
end

section
/-! PROOFS. The round trip of a pin (O25) of 70_reset_and_hazards.md: two pin writes in a row are SetBit and then ClrBit
on the shadow of the pin's set. -/

namespace Sys2Proof.Machine

section
variable {s t u : State} {p : LogicalPin}

/-- A pin write in Output mode changes the shadow of the pin's set alone (R151). -/
theorem exec_wrbit_sh {high : Bool} (h : exec (.wrbit p high) s = .next t) (hmode : s.mode = .output) (r : RegSet) :
    t.sh r = if r = (s.cfg.pinMap.get p).set then s.pinByte p high else s.sh r := by
  rw [exec_wrbit_of_output hmode] at h
  cases h
  rw [State.respond_sh, State.setSh_sh, State.txw_sh]

/-- A pin set high and then low has its bit cleared, and the other shadow is as it was. -/
theorem exec_wrbit_high_low_sh (hmode : s.mode = .output) (hhigh : exec (.wrbit p true) s = .next t)
    (hlow : exec (.wrbit p false) t = .next u) (r : RegSet) :
    u.sh r = if r = (s.cfg.pinMap.get p).set then clrBit (s.sh r) (s.cfg.pinMap.get p).bit else s.sh r := by
  have hmode' : t.mode = .output := (exec_mode hhigh nofun nofun).trans hmode
  have hcfg : t.cfg = s.cfg := (exec_sameOutside hhigh).cfg
  rw [exec_wrbit_sh hlow hmode', State.pinByte, hcfg, exec_wrbit_sh hhigh hmode, exec_wrbit_sh hhigh hmode, if_pos rfl]
  split
  next hr =>
    rw [hr]
    exact clrBit_setBit _ _
  next => rfl

end

/-- Settles O25: the round trip clears the bit of the pin, which restores the shadow iff it was 0. -/
theorem pinRoundTripRestoresIffBitWasZero : Obligations.PinRoundTripRestoresIffBitWasZero := by
  unfold Obligations.PinRoundTripRestoresIffBitWasZero
  intro p s t u hmode hhigh hlow
  have hsh := exec_wrbit_high_low_sh hmode hhigh hlow
  refine ⟨?_, fun r b hpin => ?_⟩
  · rw [← State.sh_eq_iff, ← clrBit_eq_self_iff]
    constructor
    · intro h
      rw [← h (s.cfg.pinMap.get p).set, hsh, if_pos rfl, clrBit_clrBit]
    · intro h r
      rw [hsh]
      split
      next hr => rw [hr, h]
      next => rfl
  · rw [hsh]
    split
    next hr =>
      have hb : b ≠ (s.cfg.pinMap.get p).bit := fun hb => hpin (by rw [hr, hb])
      rw [bitHigh_clrBit, if_neg hb]
    next => rfl

end Sys2Proof.Machine
end
